-- ==== Sys2Proof/Word.lean ====
section
/-! DEFINITION. The two word types of the core: a byte (00_scope R11 `u8`) and a 16-bit word (`u16`).
Every value is unsigned; addition and subtraction wrap at the width of the type, which is the masking of
10_state R24, R25 and 20_memory R52. -/

namespace Sys2Proof

/-- `u8`: a general register, a memory byte, an opcode, a `d8` operand. -/
abbrev Byte := BitVec 8

/-- `u16`: an address, SP, PC, a register pair, a `d16` operand. -/
abbrev Word := BitVec 16

end Sys2Proof
end

