-- ==== Sys2Proof/Machine/Bits.lean ====
section
/-! DEFINITION. Byte order and the halves of a word: `h ++ l = h*256 + l` (00_scope R11, 10_state R22). -/

namespace Sys2Proof.Machine

/-- `hi ++ lo`: the word whose high byte is `hi` (00_scope R11). -/
def joinBytes (hi lo : Byte) : Word := hi ++ lo

/-- `v[15:8]`. -/
def hiByte (v : Word) : Byte := v.extractLsb' 8 8

/-- `v[7:0]`. -/
def loByte (v : Word) : Byte := v.extractLsb' 0 8

/-- `v[3:0]`, the low nibble. -/
def loNibble (v : Byte) : BitVec 4 := v.extractLsb' 0 4

/-- `v[7:4]`, the high nibble. -/
def hiNibble (v : Byte) : BitVec 4 := v.extractLsb' 4 4

/-- A flag as a number of the word's width: 0 or 1. -/
def bitWord (b : Bool) : Word := if b then 1 else 0

end Sys2Proof.Machine
end

