-- ==== Sys2Proof/Machine/State.lean ====
section
/-! DEFINITION. The state of the core: the tuple at the head of spec/10_state.md, field by field, and its reset value
(10_state R36). There is no other state (R32, R34, R35). -/

namespace Sys2Proof.Machine

/-- The seven general registers (10_state R20). -/
structure Regs where
  a : Byte
  b : Byte
  c : Byte
  d : Byte
  e : Byte
  h : Byte
  l : Byte
  deriving DecidableEq, Repr

/-- The five condition flags, one bit each (10_state R27). -/
structure Flags where
  z : Bool
  s : Bool
  p : Bool
  cy : Bool
  ac : Bool
  deriving DecidableEq, Repr

/-- The run-state latch (10_state R31). HALTED and TRAPPED are the two terminal states (60_exceptions R252). -/
inductive Run where
  | running
  | halted
  | trapped
  deriving DecidableEq, Repr

/-- The whole state (10_state, head). `mem` lists the bytes that are not 0x00, by rising address: an address it does
not list reads 0x00 (R36; `memRead` in Ops.lean). `trapOpcode` and `trapPc` mean nothing unless `run` is `trapped` (R31). -/
structure State where
  regs : Regs
  flags : Flags
  sp : Word
  pc : Word
  inte : Bool
  run : Run
  trapOpcode : Byte
  trapPc : Word
  mem : List Host.Cell
  deriving DecidableEq, Repr

/-- Why a step could stop with a fault. -/
inductive Fault where
  /-- `AddressOutOfRange` of 60_exceptions R240, kept for the spec's taxonomy. NOTHING raises it: every address is
  a 16-bit word, so the condition is false in every state (R255). Safe: no step answers it. -/
  | addressOutOfRange
  deriving DecidableEq, Repr

/-- Why a step could be refused. -/
inductive Refusal where
  /-- Raised by an arm of `exec` whose instruction has no meaning yet, and by nothing else. No arm of this model raises
  it: every row has its meaning. Safe. -/
  | notModelled (mnemonic : String)
  deriving DecidableEq, Repr

/-- The state after construction, the core's only reset (10_state R36, 70_reset R270): every register, flag, SP, PC and
INTE zero, RUN = RUNNING, memory zero-filled. The spec states NO value for the trap record (R36: "unspecified"); the zeros of
`trapOpcode` and `trapPc` are a DESIGN CHOICE (log entry 1), unsafe to rest a claim on. -/
def State.reset : State where
  regs := ⟨0, 0, 0, 0, 0, 0, 0⟩
  flags := ⟨false, false, false, false, false⟩
  sp := 0
  pc := 0
  inte := false
  run := .running
  trapOpcode := 0
  trapPc := 0
  mem := []

end Sys2Proof.Machine
end

