-- ==== Sys2Proof/Syntax.lean ====
section
/-! DEFINITION. The instructions: one constructor of `Instr` for each of the 256 rows of spec/opcode_table.json, in the
order of the spec's files and rules (the twelve undefined bytes last), and the operand classes of 30_encoding R81 to R85. -/

namespace Sys2Proof

/-- The seven general registers, in the order of their codes (10_state R20, 30_encoding R82). -/
inductive Reg where
  | b
  | c
  | d
  | e
  | h
  | l
  | a
  deriving DecidableEq, Repr

/-- The three register pairs (10_state R22). -/
inductive Pair where
  | bc
  | de
  | hl
  deriving DecidableEq, Repr

/-- The pair-coded operand of LXI, DAD, INX, DCX: a pair or SP (30_encoding R83). -/
inductive Rp where
  | pair (p : Pair)
  | sp
  deriving DecidableEq, Repr

/-- The pair-coded operand of LDAX and STAX: BC or DE (30_encoding R83). -/
inductive AddrPair where
  | bc
  | de
  deriving DecidableEq, Repr

/-- The eight conditions (30_encoding R84, 43_branch R200). -/
inductive Cond where
  | nz
  | z
  | nc
  | c
  | po
  | pe
  | p
  | m
  deriving DecidableEq, Repr

/-- The eight operations of the register ALU and of the immediate ALU (30_encoding R85). -/
inductive AluOp where
  | add
  | adc
  | sub
  | sbb
  | ana
  | xra
  | ora
  | cmp
  deriving DecidableEq, Repr

/-- The three byte-level formats (30_encoding R81). -/
inductive Format where
  /-- opcode -/
  | f1
  /-- opcode, `d8` -/
  | f2
  /-- opcode, low byte, high byte of `d16` -/
  | f3
  deriving DecidableEq, Repr

/-- One constructor per opcode byte. `d8`, `port`: the second byte. `d16`, `addr`: bytes 3 (high) and 2 (low). -/
inductive Instr where
  -- Data transfer (spec/40_data_transfer.md)
  /-- `MOV B,B`, 0x40 (R110) -/
  | movBB
  /-- `MOV B,C`, 0x41 (R110) -/
  | movBC
  /-- `MOV B,D`, 0x42 (R110) -/
  | movBD
  /-- `MOV B,E`, 0x43 (R110) -/
  | movBE
  /-- `MOV B,H`, 0x44 (R110) -/
  | movBH
  /-- `MOV B,L`, 0x45 (R110) -/
  | movBL
  /-- `MOV B,A`, 0x47 (R110) -/
  | movBA
  /-- `MOV C,B`, 0x48 (R110) -/
  | movCB
  /-- `MOV C,C`, 0x49 (R110) -/
  | movCC
  /-- `MOV C,D`, 0x4A (R110) -/
  | movCD
  /-- `MOV C,E`, 0x4B (R110) -/
  | movCE
  /-- `MOV C,H`, 0x4C (R110) -/
  | movCH
  /-- `MOV C,L`, 0x4D (R110) -/
  | movCL
  /-- `MOV C,A`, 0x4F (R110) -/
  | movCA
  /-- `MOV D,B`, 0x50 (R110) -/
  | movDB
  /-- `MOV D,C`, 0x51 (R110) -/
  | movDC
  /-- `MOV D,D`, 0x52 (R110) -/
  | movDD
  /-- `MOV D,E`, 0x53 (R110) -/
  | movDE
  /-- `MOV D,H`, 0x54 (R110) -/
  | movDH
  /-- `MOV D,L`, 0x55 (R110) -/
  | movDL
  /-- `MOV D,A`, 0x57 (R110) -/
  | movDA
  /-- `MOV E,B`, 0x58 (R110) -/
  | movEB
  /-- `MOV E,C`, 0x59 (R110) -/
  | movEC
  /-- `MOV E,D`, 0x5A (R110) -/
  | movED
  /-- `MOV E,E`, 0x5B (R110) -/
  | movEE
  /-- `MOV E,H`, 0x5C (R110) -/
  | movEH
  /-- `MOV E,L`, 0x5D (R110) -/
  | movEL
  /-- `MOV E,A`, 0x5F (R110) -/
  | movEA
  /-- `MOV H,B`, 0x60 (R110) -/
  | movHB
  /-- `MOV H,C`, 0x61 (R110) -/
  | movHC
  /-- `MOV H,D`, 0x62 (R110) -/
  | movHD
  /-- `MOV H,E`, 0x63 (R110) -/
  | movHE
  /-- `MOV H,H`, 0x64 (R110) -/
  | movHH
  /-- `MOV H,L`, 0x65 (R110) -/
  | movHL
  /-- `MOV H,A`, 0x67 (R110) -/
  | movHA
  /-- `MOV L,B`, 0x68 (R110) -/
  | movLB
  /-- `MOV L,C`, 0x69 (R110) -/
  | movLC
  /-- `MOV L,D`, 0x6A (R110) -/
  | movLD
  /-- `MOV L,E`, 0x6B (R110) -/
  | movLE
  /-- `MOV L,H`, 0x6C (R110) -/
  | movLH
  /-- `MOV L,L`, 0x6D (R110) -/
  | movLL
  /-- `MOV L,A`, 0x6F (R110) -/
  | movLA
  /-- `MOV A,B`, 0x78 (R110) -/
  | movAB
  /-- `MOV A,C`, 0x79 (R110) -/
  | movAC
  /-- `MOV A,D`, 0x7A (R110) -/
  | movAD
  /-- `MOV A,E`, 0x7B (R110) -/
  | movAE
  /-- `MOV A,H`, 0x7C (R110) -/
  | movAH
  /-- `MOV A,L`, 0x7D (R110) -/
  | movAL
  /-- `MOV A,A`, 0x7F (R110) -/
  | movAA
  /-- `MOV B,M`, 0x46 (R111) -/
  | movBM
  /-- `MOV C,M`, 0x4E (R111) -/
  | movCM
  /-- `MOV D,M`, 0x56 (R111) -/
  | movDM
  /-- `MOV E,M`, 0x5E (R111) -/
  | movEM
  /-- `MOV H,M`, 0x66 (R111) -/
  | movHM
  /-- `MOV L,M`, 0x6E (R111) -/
  | movLM
  /-- `MOV A,M`, 0x7E (R111) -/
  | movAM
  /-- `MOV M,B`, 0x70 (R112) -/
  | movMB
  /-- `MOV M,C`, 0x71 (R112) -/
  | movMC
  /-- `MOV M,D`, 0x72 (R112) -/
  | movMD
  /-- `MOV M,E`, 0x73 (R112) -/
  | movME
  /-- `MOV M,H`, 0x74 (R112) -/
  | movMH
  /-- `MOV M,L`, 0x75 (R112) -/
  | movML
  /-- `MOV M,A`, 0x77 (R112) -/
  | movMA
  /-- `MVI B,d8`, 0x06 (R113) -/
  | mviB (d8 : Byte)
  /-- `MVI C,d8`, 0x0E (R113) -/
  | mviC (d8 : Byte)
  /-- `MVI D,d8`, 0x16 (R113) -/
  | mviD (d8 : Byte)
  /-- `MVI E,d8`, 0x1E (R113) -/
  | mviE (d8 : Byte)
  /-- `MVI H,d8`, 0x26 (R113) -/
  | mviH (d8 : Byte)
  /-- `MVI L,d8`, 0x2E (R113) -/
  | mviL (d8 : Byte)
  /-- `MVI A,d8`, 0x3E (R113) -/
  | mviA (d8 : Byte)
  /-- `MVI M,d8`, 0x36 (R114) -/
  | mviM (d8 : Byte)
  /-- `LXI B,d16`, 0x01 (R115) -/
  | lxiB (d16 : Word)
  /-- `LXI D,d16`, 0x11 (R115) -/
  | lxiD (d16 : Word)
  /-- `LXI H,d16`, 0x21 (R115) -/
  | lxiH (d16 : Word)
  /-- `LXI SP,d16`, 0x31 (R115) -/
  | lxiSp (d16 : Word)
  /-- `LDA a16`, 0x3A (R116) -/
  | lda (addr : Word)
  /-- `STA a16`, 0x32 (R117) -/
  | sta (addr : Word)
  /-- `LHLD a16`, 0x2A (R118) -/
  | lhld (addr : Word)
  /-- `SHLD a16`, 0x22 (R119) -/
  | shld (addr : Word)
  /-- `LDAX B`, 0x0A (R120) -/
  | ldaxB
  /-- `LDAX D`, 0x1A (R120) -/
  | ldaxD
  /-- `STAX B`, 0x02 (R121) -/
  | staxB
  /-- `STAX D`, 0x12 (R121) -/
  | staxD
  /-- `XCHG`, 0xEB (R122) -/
  | xchg
  -- Arithmetic (spec/41_arithmetic.md)
  /-- `ADD B`, 0x80 (R144) -/
  | addB
  /-- `ADD C`, 0x81 (R144) -/
  | addC
  /-- `ADD D`, 0x82 (R144) -/
  | addD
  /-- `ADD E`, 0x83 (R144) -/
  | addE
  /-- `ADD H`, 0x84 (R144) -/
  | addH
  /-- `ADD L`, 0x85 (R144) -/
  | addL
  /-- `ADD A`, 0x87 (R144) -/
  | addA
  /-- `ADD M`, 0x86 (R145) -/
  | addM
  /-- `ADI d8`, 0xC6 (R146) -/
  | adi (d8 : Byte)
  /-- `ADC B`, 0x88 (R147) -/
  | adcB
  /-- `ADC C`, 0x89 (R147) -/
  | adcC
  /-- `ADC D`, 0x8A (R147) -/
  | adcD
  /-- `ADC E`, 0x8B (R147) -/
  | adcE
  /-- `ADC H`, 0x8C (R147) -/
  | adcH
  /-- `ADC L`, 0x8D (R147) -/
  | adcL
  /-- `ADC A`, 0x8F (R147) -/
  | adcA
  /-- `ADC M`, 0x8E (R148) -/
  | adcM
  /-- `ACI d8`, 0xCE (R149) -/
  | aci (d8 : Byte)
  /-- `SUB B`, 0x90 (R150) -/
  | subB
  /-- `SUB C`, 0x91 (R150) -/
  | subC
  /-- `SUB D`, 0x92 (R150) -/
  | subD
  /-- `SUB E`, 0x93 (R150) -/
  | subE
  /-- `SUB H`, 0x94 (R150) -/
  | subH
  /-- `SUB L`, 0x95 (R150) -/
  | subL
  /-- `SUB A`, 0x97 (R150) -/
  | subA
  /-- `SUB M`, 0x96 (R151) -/
  | subM
  /-- `SUI d8`, 0xD6 (R152) -/
  | sui (d8 : Byte)
  /-- `SBB B`, 0x98 (R153) -/
  | sbbB
  /-- `SBB C`, 0x99 (R153) -/
  | sbbC
  /-- `SBB D`, 0x9A (R153) -/
  | sbbD
  /-- `SBB E`, 0x9B (R153) -/
  | sbbE
  /-- `SBB H`, 0x9C (R153) -/
  | sbbH
  /-- `SBB L`, 0x9D (R153) -/
  | sbbL
  /-- `SBB A`, 0x9F (R153) -/
  | sbbA
  /-- `SBB M`, 0x9E (R154) -/
  | sbbM
  /-- `SBI d8`, 0xDE (R155) -/
  | sbi (d8 : Byte)
  /-- `INR B`, 0x04 (R156) -/
  | inrB
  /-- `INR C`, 0x0C (R156) -/
  | inrC
  /-- `INR D`, 0x14 (R156) -/
  | inrD
  /-- `INR E`, 0x1C (R156) -/
  | inrE
  /-- `INR H`, 0x24 (R156) -/
  | inrH
  /-- `INR L`, 0x2C (R156) -/
  | inrL
  /-- `INR A`, 0x3C (R156) -/
  | inrA
  /-- `INR M`, 0x34 (R157) -/
  | inrM
  /-- `DCR B`, 0x05 (R158) -/
  | dcrB
  /-- `DCR C`, 0x0D (R158) -/
  | dcrC
  /-- `DCR D`, 0x15 (R158) -/
  | dcrD
  /-- `DCR E`, 0x1D (R158) -/
  | dcrE
  /-- `DCR H`, 0x25 (R158) -/
  | dcrH
  /-- `DCR L`, 0x2D (R158) -/
  | dcrL
  /-- `DCR A`, 0x3D (R158) -/
  | dcrA
  /-- `DCR M`, 0x35 (R159) -/
  | dcrM
  /-- `INX B`, 0x03 (R160) -/
  | inxB
  /-- `INX D`, 0x13 (R160) -/
  | inxD
  /-- `INX H`, 0x23 (R160) -/
  | inxH
  /-- `INX SP`, 0x33 (R160) -/
  | inxSp
  /-- `DCX B`, 0x0B (R161) -/
  | dcxB
  /-- `DCX D`, 0x1B (R161) -/
  | dcxD
  /-- `DCX H`, 0x2B (R161) -/
  | dcxH
  /-- `DCX SP`, 0x3B (R161) -/
  | dcxSp
  /-- `DAD B`, 0x09 (R162) -/
  | dadB
  /-- `DAD D`, 0x19 (R162) -/
  | dadD
  /-- `DAD H`, 0x29 (R162) -/
  | dadH
  /-- `DAD SP`, 0x39 (R162) -/
  | dadSp
  /-- `DAA`, 0x27 (R163) -/
  | daa
  -- Logical, compare, rotate, carry (spec/42_logical.md)
  /-- `ANA B`, 0xA0 (R170) -/
  | anaB
  /-- `ANA C`, 0xA1 (R170) -/
  | anaC
  /-- `ANA D`, 0xA2 (R170) -/
  | anaD
  /-- `ANA E`, 0xA3 (R170) -/
  | anaE
  /-- `ANA H`, 0xA4 (R170) -/
  | anaH
  /-- `ANA L`, 0xA5 (R170) -/
  | anaL
  /-- `ANA A`, 0xA7 (R170) -/
  | anaA
  /-- `ANA M`, 0xA6 (R171) -/
  | anaM
  /-- `ANI d8`, 0xE6 (R172) -/
  | ani (d8 : Byte)
  /-- `XRA B`, 0xA8 (R173) -/
  | xraB
  /-- `XRA C`, 0xA9 (R173) -/
  | xraC
  /-- `XRA D`, 0xAA (R173) -/
  | xraD
  /-- `XRA E`, 0xAB (R173) -/
  | xraE
  /-- `XRA H`, 0xAC (R173) -/
  | xraH
  /-- `XRA L`, 0xAD (R173) -/
  | xraL
  /-- `XRA A`, 0xAF (R173) -/
  | xraA
  /-- `XRA M`, 0xAE (R174) -/
  | xraM
  /-- `XRI d8`, 0xEE (R175) -/
  | xri (d8 : Byte)
  /-- `ORA B`, 0xB0 (R176) -/
  | oraB
  /-- `ORA C`, 0xB1 (R176) -/
  | oraC
  /-- `ORA D`, 0xB2 (R176) -/
  | oraD
  /-- `ORA E`, 0xB3 (R176) -/
  | oraE
  /-- `ORA H`, 0xB4 (R176) -/
  | oraH
  /-- `ORA L`, 0xB5 (R176) -/
  | oraL
  /-- `ORA A`, 0xB7 (R176) -/
  | oraA
  /-- `ORA M`, 0xB6 (R177) -/
  | oraM
  /-- `ORI d8`, 0xF6 (R178) -/
  | ori (d8 : Byte)
  /-- `CMP B`, 0xB8 (R179) -/
  | cmpB
  /-- `CMP C`, 0xB9 (R179) -/
  | cmpC
  /-- `CMP D`, 0xBA (R179) -/
  | cmpD
  /-- `CMP E`, 0xBB (R179) -/
  | cmpE
  /-- `CMP H`, 0xBC (R179) -/
  | cmpH
  /-- `CMP L`, 0xBD (R179) -/
  | cmpL
  /-- `CMP A`, 0xBF (R179) -/
  | cmpA
  /-- `CMP M`, 0xBE (R180) -/
  | cmpM
  /-- `CPI d8`, 0xFE (R181) -/
  | cpi (d8 : Byte)
  /-- `RLC`, 0x07 (R182) -/
  | rlc
  /-- `RRC`, 0x0F (R183) -/
  | rrc
  /-- `RAL`, 0x17 (R184) -/
  | ral
  /-- `RAR`, 0x1F (R185) -/
  | rar
  /-- `CMA`, 0x2F (R186) -/
  | cma
  /-- `CMC`, 0x3F (R187) -/
  | cmc
  /-- `STC`, 0x37 (R188) -/
  | stc
  -- Control transfer (spec/43_branch.md)
  /-- `JMP a16`, 0xC3 (R201) -/
  | jmp (addr : Word)
  /-- `JNZ a16`, 0xC2 (R202) -/
  | jnz (addr : Word)
  /-- `JZ a16`, 0xCA (R202) -/
  | jz (addr : Word)
  /-- `JNC a16`, 0xD2 (R202) -/
  | jnc (addr : Word)
  /-- `JC a16`, 0xDA (R202) -/
  | jc (addr : Word)
  /-- `JPO a16`, 0xE2 (R202) -/
  | jpo (addr : Word)
  /-- `JPE a16`, 0xEA (R202) -/
  | jpe (addr : Word)
  /-- `JP a16`, 0xF2 (R202) -/
  | jp (addr : Word)
  /-- `JM a16`, 0xFA (R202) -/
  | jm (addr : Word)
  /-- `CALL a16`, 0xCD (R203) -/
  | call (addr : Word)
  /-- `CNZ a16`, 0xC4 (R204) -/
  | cnz (addr : Word)
  /-- `CZ a16`, 0xCC (R204) -/
  | cz (addr : Word)
  /-- `CNC a16`, 0xD4 (R204) -/
  | cnc (addr : Word)
  /-- `CC a16`, 0xDC (R204) -/
  | cc (addr : Word)
  /-- `CPO a16`, 0xE4 (R204) -/
  | cpo (addr : Word)
  /-- `CPE a16`, 0xEC (R204) -/
  | cpe (addr : Word)
  /-- `CP a16`, 0xF4 (R204) -/
  | cp (addr : Word)
  /-- `CM a16`, 0xFC (R204) -/
  | cm (addr : Word)
  /-- `RET`, 0xC9 (R205) -/
  | ret
  /-- `RNZ`, 0xC0 (R206) -/
  | rnz
  /-- `RZ`, 0xC8 (R206) -/
  | rz
  /-- `RNC`, 0xD0 (R206) -/
  | rnc
  /-- `RC`, 0xD8 (R206) -/
  | rc
  /-- `RPO`, 0xE0 (R206) -/
  | rpo
  /-- `RPE`, 0xE8 (R206) -/
  | rpe
  /-- `RP`, 0xF0 (R206) -/
  | rp
  /-- `RM`, 0xF8 (R206) -/
  | rm
  /-- `RST 0`, 0xC7 (R207) -/
  | rst0
  /-- `RST 1`, 0xCF (R207) -/
  | rst1
  /-- `RST 2`, 0xD7 (R207) -/
  | rst2
  /-- `RST 3`, 0xDF (R207) -/
  | rst3
  /-- `RST 4`, 0xE7 (R207) -/
  | rst4
  /-- `RST 5`, 0xEF (R207) -/
  | rst5
  /-- `RST 6`, 0xF7 (R207) -/
  | rst6
  /-- `RST 7`, 0xFF (R207) -/
  | rst7
  /-- `PCHL`, 0xE9 (R208) -/
  | pchl
  -- Stack, input/output, machine control (spec/44_stack_io_machine.md)
  /-- `PUSH B`, 0xC5 (R221) -/
  | pushB
  /-- `PUSH D`, 0xD5 (R221) -/
  | pushD
  /-- `PUSH H`, 0xE5 (R221) -/
  | pushH
  /-- `PUSH PSW`, 0xF5 (R222) -/
  | pushPsw
  /-- `POP B`, 0xC1 (R223) -/
  | popB
  /-- `POP D`, 0xD1 (R223) -/
  | popD
  /-- `POP H`, 0xE1 (R223) -/
  | popH
  /-- `POP PSW`, 0xF1 (R224) -/
  | popPsw
  /-- `XTHL`, 0xE3 (R225) -/
  | xthl
  /-- `IN p8`, 0xDB (R226) -/
  | inPort (port : Byte)
  /-- `OUT p8`, 0xD3 (R227) -/
  | outPort (port : Byte)
  /-- `SPHL`, 0xF9 (R228) -/
  | sphl
  /-- `EI`, 0xFB (R229) -/
  | ei
  /-- `DI`, 0xF3 (R230) -/
  | di
  /-- `NOP`, 0x00 (R231) -/
  | nop
  /-- `HLT`, 0x76 (R232) -/
  | hlt
  -- The twelve undefined opcodes (spec/60_exceptions.md)
  /-- `*UNDEF_08`, 0x08 (R241) -/
  | undef08
  /-- `*UNDEF_10`, 0x10 (R241) -/
  | undef10
  /-- `*UNDEF_18`, 0x18 (R241) -/
  | undef18
  /-- `*UNDEF_20`, 0x20 (R241) -/
  | undef20
  /-- `*UNDEF_28`, 0x28 (R241) -/
  | undef28
  /-- `*UNDEF_30`, 0x30 (R241) -/
  | undef30
  /-- `*UNDEF_38`, 0x38 (R241) -/
  | undef38
  /-- `*UNDEF_CB`, 0xCB (R241) -/
  | undefCB
  /-- `*UNDEF_D9`, 0xD9 (R241) -/
  | undefD9
  /-- `*UNDEF_DD`, 0xDD (R241) -/
  | undefDD
  /-- `*UNDEF_ED`, 0xED (R241) -/
  | undefED
  /-- `*UNDEF_FD`, 0xFD (R241) -/
  | undefFD
  deriving DecidableEq, Repr

/-- The format of a row (30_encoding R81): which operand bytes follow the opcode. -/
def Instr.format : Instr → Format
  | .lxiB _ | .lxiD _ | .lxiH _ | .lxiSp _ | .lda _ | .sta _ | .lhld _ | .shld _ | .jmp _ | .jnz _ | .jz _
  | .jnc _ | .jc _ | .jpo _ | .jpe _ | .jp _ | .jm _ | .call _ | .cnz _ | .cz _ | .cnc _ | .cc _ | .cpo _
  | .cpe _ | .cp _ | .cm _ => .f3
  | .mviB _ | .mviC _ | .mviD _ | .mviE _ | .mviH _ | .mviL _ | .mviA _ | .mviM _ | .adi _ | .aci _ | .sui _
  | .sbi _ | .ani _ | .xri _ | .ori _ | .cpi _ | .inPort _ | .outPort _ => .f2
  | .movBB | .movBC | .movBD | .movBE | .movBH | .movBL | .movBA | .movCB | .movCC | .movCD | .movCE | .movCH
  | .movCL | .movCA | .movDB | .movDC | .movDD | .movDE | .movDH | .movDL | .movDA | .movEB | .movEC | .movED
  | .movEE | .movEH | .movEL | .movEA | .movHB | .movHC | .movHD | .movHE | .movHH | .movHL | .movHA | .movLB
  | .movLC | .movLD | .movLE | .movLH | .movLL | .movLA | .movAB | .movAC | .movAD | .movAE | .movAH | .movAL
  | .movAA | .movBM | .movCM | .movDM | .movEM | .movHM | .movLM | .movAM | .movMB | .movMC | .movMD | .movME
  | .movMH | .movML | .movMA | .ldaxB | .ldaxD | .staxB | .staxD | .xchg | .addB | .addC | .addD | .addE
  | .addH | .addL | .addA | .addM | .adcB | .adcC | .adcD | .adcE | .adcH | .adcL | .adcA | .adcM | .subB
  | .subC | .subD | .subE | .subH | .subL | .subA | .subM | .sbbB | .sbbC | .sbbD | .sbbE | .sbbH | .sbbL
  | .sbbA | .sbbM | .inrB | .inrC | .inrD | .inrE | .inrH | .inrL | .inrA | .inrM | .dcrB | .dcrC | .dcrD
  | .dcrE | .dcrH | .dcrL | .dcrA | .dcrM | .inxB | .inxD | .inxH | .inxSp | .dcxB | .dcxD | .dcxH | .dcxSp
  | .dadB | .dadD | .dadH | .dadSp | .daa | .anaB | .anaC | .anaD | .anaE | .anaH | .anaL | .anaA | .anaM
  | .xraB | .xraC | .xraD | .xraE | .xraH | .xraL | .xraA | .xraM | .oraB | .oraC | .oraD | .oraE | .oraH
  | .oraL | .oraA | .oraM | .cmpB | .cmpC | .cmpD | .cmpE | .cmpH | .cmpL | .cmpA | .cmpM | .rlc | .rrc
  | .ral | .rar | .cma | .cmc | .stc | .ret | .rnz | .rz | .rnc | .rc | .rpo | .rpe | .rp | .rm | .rst0
  | .rst1 | .rst2 | .rst3 | .rst4 | .rst5 | .rst6 | .rst7 | .pchl | .pushB | .pushD | .pushH | .pushPsw
  | .popB | .popD | .popH | .popPsw | .xthl | .sphl | .ei | .di | .nop | .hlt | .undef08 | .undef10
  | .undef18 | .undef20 | .undef28 | .undef30 | .undef38 | .undefCB | .undefD9 | .undefDD | .undefED
  | .undefFD => .f1

/-- The length in bytes: 1, 2 or 3 (30_encoding R80, R81). -/
def Instr.length (i : Instr) : Nat :=
  match i.format with
  | .f1 => 1
  | .f2 => 2
  | .f3 => 3

end Sys2Proof
end

