-- ==== Sys2Proof/Machine/Flags.lean ====
section
/-! DEFINITION. Every flag computation of the spec: parity, flagsZSP, flagsLogic, flagsArith, the auxiliary carries
(41_arithmetic R140 to R143, R166), the packed flag byte (10_state R29) and the conditions (43_branch R200). -/

namespace Sys2Proof.Machine

/-- `parity(value, bitWidth)`: the number of set bits among the low `bitWidth` bits is even (41_arithmetic R140). -/
def parity (value : Nat) (bitWidth : Nat) : Bool := (List.range bitWidth).countP value.testBit % 2 == 0

/-- `parity8(v)` (41_arithmetic R140). -/
def parity8 (v : Byte) : Bool := parity v.toNat 8

/-- `flagsZSP(r)`: Z, S, P from the byte, CY and AC untouched (41_arithmetic R141). -/
def flagsZSP (r : Byte) (f : Flags) : Flags := { f with z := r == 0, s := r.msb, p := parity8 r }

/-- `flagsLogic(r)`: CY <- 0, AC <- 0, then Z, S, P (41_arithmetic R142). -/
def flagsLogic (r : Byte) (f : Flags) : Flags := flagsZSP r { f with cy := false, ac := false }

/-- `flagsArith(t)`: CY <- (t > 0xFF), then Z, S, P of the low byte; AC untouched (41_arithmetic R143). -/
def flagsArith (t : Word) (f : Flags) : Flags := flagsZSP (loByte t) { f with cy := decide (0xFF < t.toNat) }

/-- `AC_ADD(a, v, cin)`: carry out of bit 3 of a + v + cin (41_arithmetic R166, default D5). -/
def acAdd (a v : Byte) (cin : Bool) : Bool :=
  decide (0xF < (loNibble a).toNat + (loNibble v).toNat + cin.toNat)

/-- `AC_SUB(a, v, bin)`: carry out of bit 3 of a + ~v + (1 - bin) (41_arithmetic R166, default D6). -/
def acSub (a v : Byte) (bin : Bool) : Bool :=
  decide (0xF < (loNibble a).toNat + (loNibble (~~~v)).toNat + (1 - bin.toNat))

/-- `PSW_FIXED_BITS`: bits 7:5 of the flag byte PUSH PSW writes (10_state R29, default D4). -/
def pswFixedBits : BitVec 3 := 0b000

/-- `pack(flags)` under `PSW_LAYOUT`: bit0=Z, bit1=S, bit2=P, bit3=CY, bit4=AC (10_state R29, D3). -/
def packFlags (f : Flags) : Byte :=
  pswFixedBits ++ BitVec.ofBool f.ac ++ BitVec.ofBool f.cy ++ BitVec.ofBool f.p ++ BitVec.ofBool f.s
    ++ BitVec.ofBool f.z

/-- `unpack`: the same bit positions, bits 7:5 ignored (10_state R29). -/
def unpackFlags (b : Byte) : Flags where
  z := b.getLsbD 0
  s := b.getLsbD 1
  p := b.getLsbD 2
  cy := b.getLsbD 3
  ac := b.getLsbD 4

/-- `cond(ccc)` (43_branch R200): NZ Z NC C PO PE P M; AC is never a condition. -/
def condHolds (cond : Cond) (f : Flags) : Bool :=
  match cond with
  | .nz => !f.z
  | .z => f.z
  | .nc => !f.cy
  | .c => f.cy
  | .po => !f.p
  | .pe => f.p
  | .p => !f.s
  | .m => f.s

end Sys2Proof.Machine
end

