-- ==== Sys2Proof/Config.lean ====
section
/-! DEFINITION. The parameters of 00_scope R10 that the source FIXES. The parameters at which the spec takes a
default stand where a repair may mend them: `PSW_LAYOUT`, `PSW_FIXED_BITS`, `AC_ADD`, `AC_SUB` in Machine/Flags.lean,
`UNDEF_OPCODES` in Machine/Forms.lean, `CYCLES` in Machine/Cycles.lean. `IO_HOOK` is absent (92 D11): IN and OUT take no
argument from outside. `LOAD_OFFSET` is the field `offset` of `Launch` (WellFormed.lean). There is no free value: the spec
leaves no result of an instruction open (93 section 1), so nothing here is opaque. -/

namespace Sys2Proof.Config

/-- `MEM_SIZE`: exactly 65536 bytes, addresses 0..65535 (00_scope R10, 20_memory R50, R68). -/
def memSize : Nat := 65536

/-- The longest instruction has three bytes (30_encoding R80). -/
def maxLength : Nat := 3

end Sys2Proof.Config
end

