-- ==== Sys2Proof/Machine/Ops.lean ====
section
/-! DEFINITION. The named operations over memory and registers: the memory array, byte and word access, the register
file and its pairs, the stack, the halt, and the one exception entry. Every meaning goes through these. -/

namespace Sys2Proof.Machine

/-- What a meaning answers. -/
abbrev Result := Host.Outcome State Fault Refusal

/-! ### The memory array -/

/-- What an address that memory does not list reads as: memory is zero-filled at construction (10_state R36). -/
def unlistedByte : Byte := 0

/-- The byte of the array at an address. -/
def memRead : List Host.Cell → Nat → Byte
  | [], _ => unlistedByte
  | (a, b) :: rest, n => if a = n then b else memRead rest n

/-- The array without any entry for an address. -/
def memErase : List Host.Cell → Nat → List Host.Cell
  | [], _ => []
  | (a, b) :: rest, n => if a = n then memErase rest n else (a, b) :: memErase rest n

/-- An entry put before the first higher address. -/
def memInsert : List Host.Cell → Nat → Byte → List Host.Cell
  | [], n, v => [(n, v)]
  | (a, b) :: rest, n, v => if n < a then (n, v) :: (a, b) :: rest else (a, b) :: memInsert rest n v

/-- The array with one byte set; writing what an unlisted address reads as removes the entry. -/
def memWrite (m : List Host.Cell) (n : Nat) (v : Byte) : List Host.Cell :=
  if v = unlistedByte then memErase m n else memInsert (memErase m n) n v

/-- The canonical form: addresses strictly rising and inside the 65536 bytes, no entry equal to what an unlisted
address reads as. -/
def memWf : List Host.Cell → Bool
  | [] => true
  | cell :: rest =>
    decide (cell.1 < Config.memSize) && cell.2 != unlistedByte && rest.all (fun x => decide (cell.1 < x.1)) && memWf rest

/-! ### Byte and word access -/

/-- `MemRead(addr, 1)` (20_memory R52). -/
def State.load (s : State) (a : Word) : Byte := memRead s.mem a.toNat

/-- `MemWrite(addr, 1, v)` (20_memory R52). -/
def State.store (s : State) (a : Word) (v : Byte) : State := { s with mem := memWrite s.mem a.toNat v }

/-- `MemRead(addr, 2)`: little-endian, the second byte at `addr + 1` modulo 65536 (20_memory R53). -/
def State.load16 (s : State) (a : Word) : Word := joinBytes (s.load (a + 1)) (s.load a)

/-- `MemWrite(addr, 2, v)`: low byte at `addr`, then high byte at `addr + 1` (20_memory R53). -/
def State.store16 (s : State) (a : Word) (v : Word) : State :=
  (s.store a (loByte v)).store (a + 1) (hiByte v)

/-! ### Registers -/

/-- One register of the file (10_state R20). -/
def regsGet (f : Regs) : Reg → Byte
  | .b => f.b
  | .c => f.c
  | .d => f.d
  | .e => f.e
  | .h => f.h
  | .l => f.l
  | .a => f.a

/-- The file with one register written. All seven are writable; none is hard-wired (10_state R20). -/
def regsSet (f : Regs) (r : Reg) (v : Byte) : Regs :=
  match r with
  | .b => { f with b := v }
  | .c => { f with c := v }
  | .d => { f with d := v }
  | .e => { f with e := v }
  | .h => { f with h := v }
  | .l => { f with l := v }
  | .a => { f with a := v }

/-- `x[r]` (00_scope R12). -/
def State.reg (s : State) (r : Reg) : Byte := regsGet s.regs r

/-- `x[r] <- v`. -/
def State.setReg (s : State) (r : Reg) (v : Byte) : State := { s with regs := regsSet s.regs r v }

/-- The high half of a pair: B, D, H (10_state R22). -/
def pairHi : Pair → Reg
  | .bc => .b
  | .de => .d
  | .hl => .h

/-- The low half of a pair: C, E, L (10_state R22). -/
def pairLo : Pair → Reg
  | .bc => .c
  | .de => .e
  | .hl => .l

/-- `getPair`: high register times 256 plus low register (10_state R22). -/
def State.pair (s : State) (p : Pair) : Word := joinBytes (s.reg (pairHi p)) (s.reg (pairLo p))

/-- `setPair`: `value >> 8` to the high half, `value & 0xFF` to the low half (10_state R22). -/
def State.setPair (s : State) (p : Pair) (v : Word) : State :=
  (s.setReg (pairHi p) (hiByte v)).setReg (pairLo p) (loByte v)

/-- `SP <- v`. -/
def State.setSp (s : State) (v : Word) : State := { s with sp := v }

/-- `pc <- target`. -/
def State.setPc (s : State) (v : Word) : State := { s with pc := v }

/-- The flags replaced. -/
def State.setFlags (s : State) (f : Flags) : State := { s with flags := f }

/-- `INTE <- b`. -/
def State.setInte (s : State) (b : Bool) : State := { s with inte := b }

/-! ### The stack (44_stack R220) -/

/-- `push16(v)`: high byte at SP-1, low byte at SP-2, then SP <- SP-2. -/
def State.push16 (s : State) (v : Word) : State :=
  ((s.store (s.sp - 1) (hiByte v)).store (s.sp - 2) (loByte v)).setSp (s.sp - 2)

/-- The word `pop16()` returns: low byte at SP, high byte at SP+1. -/
def State.topWord (s : State) : Word := joinBytes (s.load (s.sp + 1)) (s.load s.sp)

/-- The state after `pop16()`: SP <- SP+2, the bytes read are not erased. -/
def State.popped (s : State) : State := s.setSp (s.sp + 2)

/-! ### The halt and the exception -/

/-- `halt`: RUN <- HALTED (44_stack R232, 60_exceptions R244). -/
def State.halt (s : State) : State := { s with run := .halted }

/-- TAKING THE ONE EXCEPTION, `UnimplementedOpcode(opcode, pc0)` (60_exceptions R241 to R243): TRAP_OPCODE <- opcode,
TRAP_PC <- pc0, RUN <- TRAPPED, and nothing else: nothing pushed, no vector. PC stays pc0 + 1, where the fetch of
the one opcode byte left it, so pc0 is `pc - 1`. THERE IS NO RETURN from it (R245): nothing leaves TRAPPED. -/
def State.takeTrap (s : State) (opcode : Byte) : State :=
  { s with trapOpcode := opcode, trapPc := s.pc - 1, run := .trapped }

end Sys2Proof.Machine
end

