-- ==== Sys2Proof/Machine/Operands.lean ====
section
/-! DEFINITION. The operand forms beyond a plain register: M (the byte at HL), the pair-coded operand with SP
(30_encoding R83), and PSW (10_state R23). -/

namespace Sys2Proof.Machine

/-- The address of M: HL (00_scope R14, 20_memory R55). -/
def State.hl (s : State) : Word := s.pair .hl

/-- The operand M: `MemRead(HL, 1)`. -/
def State.operandM (s : State) : Byte := s.load s.hl

/-- M as a destination: `MemWrite(HL, 1, v)`. -/
def State.setM (s : State) (v : Byte) : State := s.store s.hl v

/-- The value of a pair-coded operand of LXI, DAD, INX, DCX (30_encoding R83). -/
def State.rp (s : State) : Rp → Word
  | .pair p => s.pair p
  | .sp => s.sp

/-- A pair-coded operand as a destination. -/
def State.setRp (s : State) (r : Rp) (v : Word) : State :=
  match r with
  | .pair p => s.setPair p v
  | .sp => s.setSp v

/-- PSW: A in the high byte, the packed flags in the low byte (10_state R23). -/
def State.psw (s : State) : Word := joinBytes (s.reg .a) (packFlags s.flags)

/-- PSW as a destination: the low byte unpacked into the flags, the high byte to A (44_stack R224). -/
def State.setPsw (s : State) (w : Word) : State :=
  (s.setFlags (unpackFlags (loByte w))).setReg .a (hiByte w)

end Sys2Proof.Machine
end

