-- ==== Sys2Proof/Machine/Arithmetic.lean ====
section
/-! DEFINITION. The meanings of spec/41_arithmetic.md (R144 to R163). No instruction of it raises (R164); PC stays `pcn`. -/

namespace Sys2Proof.Machine

/-! ### The shared operations -/

/-- ADD-template(v, cin): `t <- a + v + cin`; AC, then flagsArith(t), then A <- t[7:0] (41_arithmetic section 2). -/
def addTemplate (v : Byte) (cin : Bool) (s : State) : State :=
  let a := s.reg .a
  let t : Word := a.zeroExtend 16 + v.zeroExtend 16 + bitWord cin
  (s.setFlags (flagsArith t { s.flags with ac := acAdd a v cin })).setReg .a (loByte t)

/-- SUB-template(v, bin): `t <- (a - v - bin) mod 65536`; AC, then flagsArith(t), then A <- t[7:0]. -/
def subTemplate (v : Byte) (bin : Bool) (s : State) : State :=
  let a := s.reg .a
  let t : Word := a.zeroExtend 16 - v.zeroExtend 16 - bitWord bin
  (s.setFlags (flagsArith t { s.flags with ac := acSub a v bin })).setReg .a (loByte t)

/-- `v <- (x[r] + 1) mod 256; x[r] <- v; flagsZSP(v)`: CY and AC untouched (R156). -/
def incrementReg (r : Reg) (s : State) : State :=
  let v := s.reg r + 1
  (s.setReg r v).setFlags (flagsZSP v s.flags)

/-- INR M (R157). -/
def incrementMem (s : State) : State :=
  let v := s.operandM + 1
  (s.setM v).setFlags (flagsZSP v s.flags)

/-- `v <- (x[r] - 1) mod 256; x[r] <- v; flagsZSP(v)`: CY and AC untouched (R158). -/
def decrementReg (r : Reg) (s : State) : State :=
  let v := s.reg r - 1
  (s.setReg r v).setFlags (flagsZSP v s.flags)

/-- DCR M (R159). -/
def decrementMem (s : State) : State :=
  let v := s.operandM - 1
  (s.setM v).setFlags (flagsZSP v s.flags)

/-- INX, the two-step carry the source asks for: the low half, and the high half only when the low half became 0x00;
SP as one register (R160, D22). -/
def incrementPair (rp : Rp) (s : State) : State :=
  match rp with
  | .pair p =>
    let s1 := s.setReg (pairLo p) (s.reg (pairLo p) + 1)
    if s1.reg (pairLo p) = 0x00 then s1.setReg (pairHi p) (s1.reg (pairHi p) + 1) else s1
  | .sp => s.setSp (s.sp + 1)

/-- DCX, the mirror: the high half only when the low half became 0xFF (R161, D22). -/
def decrementPair (rp : Rp) (s : State) : State :=
  match rp with
  | .pair p =>
    let s1 := s.setReg (pairLo p) (s.reg (pairLo p) - 1)
    if s1.reg (pairLo p) = 0xFF then s1.setReg (pairHi p) (s1.reg (pairHi p) - 1) else s1
  | .sp => s.setSp (s.sp - 1)

/-- DAD: `t <- HL + rp` in 17 bits; CY <- t[16]; HL <- t[15:0]; no other flag (R162). -/
def addPairToHl (rp : Rp) (s : State) : State :=
  let t : BitVec 17 := s.hl.zeroExtend 17 + (s.rp rp).zeroExtend 17
  (s.setFlags { s.flags with cy := t.getLsbD 16 }).setPair .hl (t.extractLsb' 0 16)

/-- Whether DAA's low correction applies: `AC = 1 or lo > 9` (R163). -/
def daaLow (a : Byte) (f : Flags) : Bool := f.ac || decide (9 < (loNibble a).toNat)

/-- Whether DAA's high correction applies: `CY = 1 or hi > 9 or (hi >= 9 and lo > 9)` (R163). -/
def daaHigh (a : Byte) (f : Flags) : Bool :=
  f.cy || decide (9 < (hiNibble a).toNat) || (decide (9 ≤ (hiNibble a).toNat) && decide (9 < (loNibble a).toNat))

/-- DAA (R163): one addition of the correction; AC its carry out of bit 3; CY set when the high correction applies,
never cleared. -/
def decimalAdjust (s : State) : State :=
  let a := s.reg .a
  let corr : Byte := (if daaLow a s.flags then 0x06 else 0x00) + (if daaHigh a s.flags then 0x60 else 0x00)
  let t := a + corr
  (s.setFlags (flagsZSP t { s.flags with ac := acAdd a corr false, cy := s.flags.cy || daaHigh a s.flags })).setReg .a t

/-! ### The instructions -/

/-- `ADD B` (R144). -/
def execAddB (s : State) : Result := .next (addTemplate (s.reg .b) false s)

/-- `ADD C` (R144). -/
def execAddC (s : State) : Result := .next (addTemplate (s.reg .c) false s)

/-- `ADD D` (R144). -/
def execAddD (s : State) : Result := .next (addTemplate (s.reg .d) false s)

/-- `ADD E` (R144). -/
def execAddE (s : State) : Result := .next (addTemplate (s.reg .e) false s)

/-- `ADD H` (R144). -/
def execAddH (s : State) : Result := .next (addTemplate (s.reg .h) false s)

/-- `ADD L` (R144). -/
def execAddL (s : State) : Result := .next (addTemplate (s.reg .l) false s)

/-- `ADD A` (R144). -/
def execAddA (s : State) : Result := .next (addTemplate (s.reg .a) false s)

/-- `ADD M` (R145). -/
def execAddM (s : State) : Result := .next (addTemplate s.operandM false s)

/-- `ADI d8` (R146). -/
def execAdi (d8 : Byte) (s : State) : Result := .next (addTemplate d8 false s)

/-- `ADC B` (R147). -/
def execAdcB (s : State) : Result := .next (addTemplate (s.reg .b) s.flags.cy s)

/-- `ADC C` (R147). -/
def execAdcC (s : State) : Result := .next (addTemplate (s.reg .c) s.flags.cy s)

/-- `ADC D` (R147). -/
def execAdcD (s : State) : Result := .next (addTemplate (s.reg .d) s.flags.cy s)

/-- `ADC E` (R147). -/
def execAdcE (s : State) : Result := .next (addTemplate (s.reg .e) s.flags.cy s)

/-- `ADC H` (R147). -/
def execAdcH (s : State) : Result := .next (addTemplate (s.reg .h) s.flags.cy s)

/-- `ADC L` (R147). -/
def execAdcL (s : State) : Result := .next (addTemplate (s.reg .l) s.flags.cy s)

/-- `ADC A` (R147). -/
def execAdcA (s : State) : Result := .next (addTemplate (s.reg .a) s.flags.cy s)

/-- `ADC M` (R148). -/
def execAdcM (s : State) : Result := .next (addTemplate s.operandM s.flags.cy s)

/-- `ACI d8` (R149). -/
def execAci (d8 : Byte) (s : State) : Result := .next (addTemplate d8 s.flags.cy s)

/-- `SUB B` (R150). -/
def execSubB (s : State) : Result := .next (subTemplate (s.reg .b) false s)

/-- `SUB C` (R150). -/
def execSubC (s : State) : Result := .next (subTemplate (s.reg .c) false s)

/-- `SUB D` (R150). -/
def execSubD (s : State) : Result := .next (subTemplate (s.reg .d) false s)

/-- `SUB E` (R150). -/
def execSubE (s : State) : Result := .next (subTemplate (s.reg .e) false s)

/-- `SUB H` (R150). -/
def execSubH (s : State) : Result := .next (subTemplate (s.reg .h) false s)

/-- `SUB L` (R150). -/
def execSubL (s : State) : Result := .next (subTemplate (s.reg .l) false s)

/-- `SUB A` (R150). -/
def execSubA (s : State) : Result := .next (subTemplate (s.reg .a) false s)

/-- `SUB M` (R151). -/
def execSubM (s : State) : Result := .next (subTemplate s.operandM false s)

/-- `SUI d8` (R152). -/
def execSui (d8 : Byte) (s : State) : Result := .next (subTemplate d8 false s)

/-- `SBB B` (R153). -/
def execSbbB (s : State) : Result := .next (subTemplate (s.reg .b) s.flags.cy s)

/-- `SBB C` (R153). -/
def execSbbC (s : State) : Result := .next (subTemplate (s.reg .c) s.flags.cy s)

/-- `SBB D` (R153). -/
def execSbbD (s : State) : Result := .next (subTemplate (s.reg .d) s.flags.cy s)

/-- `SBB E` (R153). -/
def execSbbE (s : State) : Result := .next (subTemplate (s.reg .e) s.flags.cy s)

/-- `SBB H` (R153). -/
def execSbbH (s : State) : Result := .next (subTemplate (s.reg .h) s.flags.cy s)

/-- `SBB L` (R153). -/
def execSbbL (s : State) : Result := .next (subTemplate (s.reg .l) s.flags.cy s)

/-- `SBB A` (R153). -/
def execSbbA (s : State) : Result := .next (subTemplate (s.reg .a) s.flags.cy s)

/-- `SBB M` (R154). -/
def execSbbM (s : State) : Result := .next (subTemplate s.operandM s.flags.cy s)

/-- `SBI d8` (R155). -/
def execSbi (d8 : Byte) (s : State) : Result := .next (subTemplate d8 s.flags.cy s)

/-- `INR B` (R156). -/
def execInrB (s : State) : Result := .next (incrementReg .b s)

/-- `INR C` (R156). -/
def execInrC (s : State) : Result := .next (incrementReg .c s)

/-- `INR D` (R156). -/
def execInrD (s : State) : Result := .next (incrementReg .d s)

/-- `INR E` (R156). -/
def execInrE (s : State) : Result := .next (incrementReg .e s)

/-- `INR H` (R156). -/
def execInrH (s : State) : Result := .next (incrementReg .h s)

/-- `INR L` (R156). -/
def execInrL (s : State) : Result := .next (incrementReg .l s)

/-- `INR A` (R156). -/
def execInrA (s : State) : Result := .next (incrementReg .a s)

/-- `INR M` (R157). -/
def execInrM (s : State) : Result := .next (incrementMem s)

/-- `DCR B` (R158). -/
def execDcrB (s : State) : Result := .next (decrementReg .b s)

/-- `DCR C` (R158). -/
def execDcrC (s : State) : Result := .next (decrementReg .c s)

/-- `DCR D` (R158). -/
def execDcrD (s : State) : Result := .next (decrementReg .d s)

/-- `DCR E` (R158). -/
def execDcrE (s : State) : Result := .next (decrementReg .e s)

/-- `DCR H` (R158). -/
def execDcrH (s : State) : Result := .next (decrementReg .h s)

/-- `DCR L` (R158). -/
def execDcrL (s : State) : Result := .next (decrementReg .l s)

/-- `DCR A` (R158). -/
def execDcrA (s : State) : Result := .next (decrementReg .a s)

/-- `DCR M` (R159). -/
def execDcrM (s : State) : Result := .next (decrementMem s)

/-- `INX B` (R160). -/
def execInxB (s : State) : Result := .next (incrementPair (.pair .bc) s)

/-- `INX D` (R160). -/
def execInxD (s : State) : Result := .next (incrementPair (.pair .de) s)

/-- `INX H` (R160). -/
def execInxH (s : State) : Result := .next (incrementPair (.pair .hl) s)

/-- `INX SP` (R160). -/
def execInxSp (s : State) : Result := .next (incrementPair .sp s)

/-- `DCX B` (R161). -/
def execDcxB (s : State) : Result := .next (decrementPair (.pair .bc) s)

/-- `DCX D` (R161). -/
def execDcxD (s : State) : Result := .next (decrementPair (.pair .de) s)

/-- `DCX H` (R161). -/
def execDcxH (s : State) : Result := .next (decrementPair (.pair .hl) s)

/-- `DCX SP` (R161). -/
def execDcxSp (s : State) : Result := .next (decrementPair .sp s)

/-- `DAD B` (R162). -/
def execDadB (s : State) : Result := .next (addPairToHl (.pair .bc) s)

/-- `DAD D` (R162). -/
def execDadD (s : State) : Result := .next (addPairToHl (.pair .de) s)

/-- `DAD H` (R162). -/
def execDadH (s : State) : Result := .next (addPairToHl (.pair .hl) s)

/-- `DAD SP` (R162). -/
def execDadSp (s : State) : Result := .next (addPairToHl .sp s)

/-- `DAA` (R163). -/
def execDaa (s : State) : Result := .next (decimalAdjust s)

end Sys2Proof.Machine
end

