-- ==== Sys2Proof/Machine/Branch.lean ====
section
/-! DEFINITION. The meanings of spec/43_branch.md (R200 to R208). No flag, no general register; targets are absolute. On
entry PC is `pcn`, the address after the instruction (00_scope R13), which is what a call pushes. -/

namespace Sys2Proof.Machine

/-! ### The shared operations -/

/-- `pc <- addr` (R201). -/
def jumpTo (addr : Word) (s : State) : State := s.setPc addr

/-- `if cond(ccc) then pc <- addr` (R202). -/
def jumpIf (cond : Cond) (addr : Word) (s : State) : State := if condHolds cond s.flags then jumpTo addr s else s

/-- `push16(pcn); pc <- addr` (R203). -/
def callTo (addr : Word) (s : State) : State := (s.push16 s.pc).setPc addr

/-- `if cond(ccc) then { push16(pcn); pc <- addr }` (R204). -/
def callIf (cond : Cond) (addr : Word) (s : State) : State := if condHolds cond s.flags then callTo addr s else s

/-- `pc <- pop16()` (R205). -/
def returnFromCall (s : State) : State := s.popped.setPc s.topWord

/-- `if cond(ccc) then pc <- pop16()` (R206). -/
def returnIf (cond : Cond) (s : State) : State := if condHolds cond s.flags then returnFromCall s else s

/-- `push16(pcn); pc <- 8 * n`, the target being `nnn << 3` (R207). -/
def restart (n : BitVec 3) (s : State) : State := callTo (n.zeroExtend 16 <<< 3) s

/-- `pc <- HL` (R208). -/
def jumpHl (s : State) : State := s.setPc s.hl

/-! ### The instructions -/

/-- `JMP a16` (R201). -/
def execJmp (addr : Word) (s : State) : Result := .next (jumpTo addr s)

/-- `JNZ a16` (R202). -/
def execJnz (addr : Word) (s : State) : Result := .next (jumpIf .nz addr s)

/-- `JZ a16` (R202). -/
def execJz (addr : Word) (s : State) : Result := .next (jumpIf .z addr s)

/-- `JNC a16` (R202). -/
def execJnc (addr : Word) (s : State) : Result := .next (jumpIf .nc addr s)

/-- `JC a16` (R202). -/
def execJc (addr : Word) (s : State) : Result := .next (jumpIf .c addr s)

/-- `JPO a16` (R202). -/
def execJpo (addr : Word) (s : State) : Result := .next (jumpIf .po addr s)

/-- `JPE a16` (R202). -/
def execJpe (addr : Word) (s : State) : Result := .next (jumpIf .pe addr s)

/-- `JP a16` (R202). -/
def execJp (addr : Word) (s : State) : Result := .next (jumpIf .p addr s)

/-- `JM a16` (R202). -/
def execJm (addr : Word) (s : State) : Result := .next (jumpIf .m addr s)

/-- `CALL a16` (R203). -/
def execCall (addr : Word) (s : State) : Result := .next (callTo addr s)

/-- `CNZ a16` (R204). -/
def execCnz (addr : Word) (s : State) : Result := .next (callIf .nz addr s)

/-- `CZ a16` (R204). -/
def execCz (addr : Word) (s : State) : Result := .next (callIf .z addr s)

/-- `CNC a16` (R204). -/
def execCnc (addr : Word) (s : State) : Result := .next (callIf .nc addr s)

/-- `CC a16` (R204). -/
def execCc (addr : Word) (s : State) : Result := .next (callIf .c addr s)

/-- `CPO a16` (R204). -/
def execCpo (addr : Word) (s : State) : Result := .next (callIf .po addr s)

/-- `CPE a16` (R204). -/
def execCpe (addr : Word) (s : State) : Result := .next (callIf .pe addr s)

/-- `CP a16` (R204). -/
def execCp (addr : Word) (s : State) : Result := .next (callIf .p addr s)

/-- `CM a16` (R204). -/
def execCm (addr : Word) (s : State) : Result := .next (callIf .m addr s)

/-- `RET` (R205). -/
def execRet (s : State) : Result := .next (returnFromCall s)

/-- `RNZ` (R206). -/
def execRnz (s : State) : Result := .next (returnIf .nz s)

/-- `RZ` (R206). -/
def execRz (s : State) : Result := .next (returnIf .z s)

/-- `RNC` (R206). -/
def execRnc (s : State) : Result := .next (returnIf .nc s)

/-- `RC` (R206). -/
def execRc (s : State) : Result := .next (returnIf .c s)

/-- `RPO` (R206). -/
def execRpo (s : State) : Result := .next (returnIf .po s)

/-- `RPE` (R206). -/
def execRpe (s : State) : Result := .next (returnIf .pe s)

/-- `RP` (R206). -/
def execRp (s : State) : Result := .next (returnIf .p s)

/-- `RM` (R206). -/
def execRm (s : State) : Result := .next (returnIf .m s)

/-- `RST 0` (R207). -/
def execRst0 (s : State) : Result := .next (restart 0 s)

/-- `RST 1` (R207). -/
def execRst1 (s : State) : Result := .next (restart 1 s)

/-- `RST 2` (R207). -/
def execRst2 (s : State) : Result := .next (restart 2 s)

/-- `RST 3` (R207). -/
def execRst3 (s : State) : Result := .next (restart 3 s)

/-- `RST 4` (R207). -/
def execRst4 (s : State) : Result := .next (restart 4 s)

/-- `RST 5` (R207). -/
def execRst5 (s : State) : Result := .next (restart 5 s)

/-- `RST 6` (R207). -/
def execRst6 (s : State) : Result := .next (restart 6 s)

/-- `RST 7` (R207). -/
def execRst7 (s : State) : Result := .next (restart 7 s)

/-- `PCHL` (R208). -/
def execPchl (s : State) : Result := .next (jumpHl s)

end Sys2Proof.Machine
end

