-- ==== Sys2Proof/Machine/DataTransfer.lean ====
section
/-! DEFINITION. The meanings of spec/40_data_transfer.md (R110 to R122): no flag, no exception, PC stays `pcn`. -/

namespace Sys2Proof.Machine

/-! ### The shared operations -/

/-- `x[r1] <- x[r2]` (R110). -/
def movRegReg (r1 r2 : Reg) (s : State) : State := s.setReg r1 (s.reg r2)

/-- `x[r] <- MemRead(HL, 1)`, the address taken before the write (R111). -/
def movRegMem (r : Reg) (s : State) : State := s.setReg r s.operandM

/-- `MemWrite(HL, 1, x[r])` (R112). -/
def movMemReg (r : Reg) (s : State) : State := s.setM (s.reg r)

/-- `x[r] <- d8` (R113). -/
def moveImmReg (r : Reg) (d8 : Byte) (s : State) : State := s.setReg r d8

/-- `MemWrite(HL, 1, d8)` (R114). -/
def moveImmMem (d8 : Byte) (s : State) : State := s.setM d8

/-- `rp <- d16`, byte 3 to the high half, byte 2 to the low half, or SP (R115). -/
def loadImmPair (rp : Rp) (d16 : Word) (s : State) : State := s.setRp rp d16

/-- `x[A] <- MemRead(addr, 1)` (R116). -/
def loadDirect (addr : Word) (s : State) : State := s.setReg .a (s.load addr)

/-- `MemWrite(addr, 1, x[A])` (R117). -/
def storeDirect (addr : Word) (s : State) : State := s.store addr (s.reg .a)

/-- `x[L] <- MemRead(addr, 1); x[H] <- MemRead(addr + 1, 1)` (R118). -/
def loadHlDirect (addr : Word) (s : State) : State :=
  let s1 := s.setReg .l (s.load addr)
  s1.setReg .h (s1.load (addr + 1))

/-- `MemWrite(addr, 1, x[L]); MemWrite(addr + 1, 1, x[H])` (R119). -/
def storeHlDirect (addr : Word) (s : State) : State :=
  let s1 := s.store addr (s.reg .l)
  s1.store (addr + 1) (s1.reg .h)

/-- The pair LDAX and STAX address through: BC or DE (30_encoding R83). -/
def addrPair : AddrPair → Pair
  | .bc => .bc
  | .de => .de

/-- `x[A] <- MemRead(rp, 1)` (R120). -/
def loadIndirect (p : AddrPair) (s : State) : State := s.setReg .a (s.load (s.pair (addrPair p)))

/-- `MemWrite(rp, 1, x[A])` (R121). -/
def storeIndirect (p : AddrPair) (s : State) : State := s.store (s.pair (addrPair p)) (s.reg .a)

/-- `t <- HL; HL <- DE; DE <- t` (R122). -/
def exchangeDeHl (s : State) : State :=
  let t := s.pair .hl
  (s.setPair .hl (s.pair .de)).setPair .de t

/-! ### The instructions -/

/-- `MOV B,B` (R110). -/
def execMovBB (s : State) : Result := .next (movRegReg .b .b s)

/-- `MOV B,C` (R110). -/
def execMovBC (s : State) : Result := .next (movRegReg .b .c s)

/-- `MOV B,D` (R110). -/
def execMovBD (s : State) : Result := .next (movRegReg .b .d s)

/-- `MOV B,E` (R110). -/
def execMovBE (s : State) : Result := .next (movRegReg .b .e s)

/-- `MOV B,H` (R110). -/
def execMovBH (s : State) : Result := .next (movRegReg .b .h s)

/-- `MOV B,L` (R110). -/
def execMovBL (s : State) : Result := .next (movRegReg .b .l s)

/-- `MOV B,A` (R110). -/
def execMovBA (s : State) : Result := .next (movRegReg .b .a s)

/-- `MOV C,B` (R110). -/
def execMovCB (s : State) : Result := .next (movRegReg .c .b s)

/-- `MOV C,C` (R110). -/
def execMovCC (s : State) : Result := .next (movRegReg .c .c s)

/-- `MOV C,D` (R110). -/
def execMovCD (s : State) : Result := .next (movRegReg .c .d s)

/-- `MOV C,E` (R110). -/
def execMovCE (s : State) : Result := .next (movRegReg .c .e s)

/-- `MOV C,H` (R110). -/
def execMovCH (s : State) : Result := .next (movRegReg .c .h s)

/-- `MOV C,L` (R110). -/
def execMovCL (s : State) : Result := .next (movRegReg .c .l s)

/-- `MOV C,A` (R110). -/
def execMovCA (s : State) : Result := .next (movRegReg .c .a s)

/-- `MOV D,B` (R110). -/
def execMovDB (s : State) : Result := .next (movRegReg .d .b s)

/-- `MOV D,C` (R110). -/
def execMovDC (s : State) : Result := .next (movRegReg .d .c s)

/-- `MOV D,D` (R110). -/
def execMovDD (s : State) : Result := .next (movRegReg .d .d s)

/-- `MOV D,E` (R110). -/
def execMovDE (s : State) : Result := .next (movRegReg .d .e s)

/-- `MOV D,H` (R110). -/
def execMovDH (s : State) : Result := .next (movRegReg .d .h s)

/-- `MOV D,L` (R110). -/
def execMovDL (s : State) : Result := .next (movRegReg .d .l s)

/-- `MOV D,A` (R110). -/
def execMovDA (s : State) : Result := .next (movRegReg .d .a s)

/-- `MOV E,B` (R110). -/
def execMovEB (s : State) : Result := .next (movRegReg .e .b s)

/-- `MOV E,C` (R110). -/
def execMovEC (s : State) : Result := .next (movRegReg .e .c s)

/-- `MOV E,D` (R110). -/
def execMovED (s : State) : Result := .next (movRegReg .e .d s)

/-- `MOV E,E` (R110). -/
def execMovEE (s : State) : Result := .next (movRegReg .e .e s)

/-- `MOV E,H` (R110). -/
def execMovEH (s : State) : Result := .next (movRegReg .e .h s)

/-- `MOV E,L` (R110). -/
def execMovEL (s : State) : Result := .next (movRegReg .e .l s)

/-- `MOV E,A` (R110). -/
def execMovEA (s : State) : Result := .next (movRegReg .e .a s)

/-- `MOV H,B` (R110). -/
def execMovHB (s : State) : Result := .next (movRegReg .h .b s)

/-- `MOV H,C` (R110). -/
def execMovHC (s : State) : Result := .next (movRegReg .h .c s)

/-- `MOV H,D` (R110). -/
def execMovHD (s : State) : Result := .next (movRegReg .h .d s)

/-- `MOV H,E` (R110). -/
def execMovHE (s : State) : Result := .next (movRegReg .h .e s)

/-- `MOV H,H` (R110). -/
def execMovHH (s : State) : Result := .next (movRegReg .h .h s)

/-- `MOV H,L` (R110). -/
def execMovHL (s : State) : Result := .next (movRegReg .h .l s)

/-- `MOV H,A` (R110). -/
def execMovHA (s : State) : Result := .next (movRegReg .h .a s)

/-- `MOV L,B` (R110). -/
def execMovLB (s : State) : Result := .next (movRegReg .l .b s)

/-- `MOV L,C` (R110). -/
def execMovLC (s : State) : Result := .next (movRegReg .l .c s)

/-- `MOV L,D` (R110). -/
def execMovLD (s : State) : Result := .next (movRegReg .l .d s)

/-- `MOV L,E` (R110). -/
def execMovLE (s : State) : Result := .next (movRegReg .l .e s)

/-- `MOV L,H` (R110). -/
def execMovLH (s : State) : Result := .next (movRegReg .l .h s)

/-- `MOV L,L` (R110). -/
def execMovLL (s : State) : Result := .next (movRegReg .l .l s)

/-- `MOV L,A` (R110). -/
def execMovLA (s : State) : Result := .next (movRegReg .l .a s)

/-- `MOV A,B` (R110). -/
def execMovAB (s : State) : Result := .next (movRegReg .a .b s)

/-- `MOV A,C` (R110). -/
def execMovAC (s : State) : Result := .next (movRegReg .a .c s)

/-- `MOV A,D` (R110). -/
def execMovAD (s : State) : Result := .next (movRegReg .a .d s)

/-- `MOV A,E` (R110). -/
def execMovAE (s : State) : Result := .next (movRegReg .a .e s)

/-- `MOV A,H` (R110). -/
def execMovAH (s : State) : Result := .next (movRegReg .a .h s)

/-- `MOV A,L` (R110). -/
def execMovAL (s : State) : Result := .next (movRegReg .a .l s)

/-- `MOV A,A` (R110). -/
def execMovAA (s : State) : Result := .next (movRegReg .a .a s)

/-- `MOV B,M` (R111). -/
def execMovBM (s : State) : Result := .next (movRegMem .b s)

/-- `MOV C,M` (R111). -/
def execMovCM (s : State) : Result := .next (movRegMem .c s)

/-- `MOV D,M` (R111). -/
def execMovDM (s : State) : Result := .next (movRegMem .d s)

/-- `MOV E,M` (R111). -/
def execMovEM (s : State) : Result := .next (movRegMem .e s)

/-- `MOV H,M` (R111). -/
def execMovHM (s : State) : Result := .next (movRegMem .h s)

/-- `MOV L,M` (R111). -/
def execMovLM (s : State) : Result := .next (movRegMem .l s)

/-- `MOV A,M` (R111). -/
def execMovAM (s : State) : Result := .next (movRegMem .a s)

/-- `MOV M,B` (R112). -/
def execMovMB (s : State) : Result := .next (movMemReg .b s)

/-- `MOV M,C` (R112). -/
def execMovMC (s : State) : Result := .next (movMemReg .c s)

/-- `MOV M,D` (R112). -/
def execMovMD (s : State) : Result := .next (movMemReg .d s)

/-- `MOV M,E` (R112). -/
def execMovME (s : State) : Result := .next (movMemReg .e s)

/-- `MOV M,H` (R112). -/
def execMovMH (s : State) : Result := .next (movMemReg .h s)

/-- `MOV M,L` (R112). -/
def execMovML (s : State) : Result := .next (movMemReg .l s)

/-- `MOV M,A` (R112). -/
def execMovMA (s : State) : Result := .next (movMemReg .a s)

/-- `MVI B,d8` (R113). -/
def execMviB (d8 : Byte) (s : State) : Result := .next (moveImmReg .b d8 s)

/-- `MVI C,d8` (R113). -/
def execMviC (d8 : Byte) (s : State) : Result := .next (moveImmReg .c d8 s)

/-- `MVI D,d8` (R113). -/
def execMviD (d8 : Byte) (s : State) : Result := .next (moveImmReg .d d8 s)

/-- `MVI E,d8` (R113). -/
def execMviE (d8 : Byte) (s : State) : Result := .next (moveImmReg .e d8 s)

/-- `MVI H,d8` (R113). -/
def execMviH (d8 : Byte) (s : State) : Result := .next (moveImmReg .h d8 s)

/-- `MVI L,d8` (R113). -/
def execMviL (d8 : Byte) (s : State) : Result := .next (moveImmReg .l d8 s)

/-- `MVI A,d8` (R113). -/
def execMviA (d8 : Byte) (s : State) : Result := .next (moveImmReg .a d8 s)

/-- `MVI M,d8` (R114). -/
def execMviM (d8 : Byte) (s : State) : Result := .next (moveImmMem d8 s)

/-- `LXI B,d16` (R115). -/
def execLxiB (d16 : Word) (s : State) : Result := .next (loadImmPair (.pair .bc) d16 s)

/-- `LXI D,d16` (R115). -/
def execLxiD (d16 : Word) (s : State) : Result := .next (loadImmPair (.pair .de) d16 s)

/-- `LXI H,d16` (R115). -/
def execLxiH (d16 : Word) (s : State) : Result := .next (loadImmPair (.pair .hl) d16 s)

/-- `LXI SP,d16` (R115). -/
def execLxiSp (d16 : Word) (s : State) : Result := .next (loadImmPair .sp d16 s)

/-- `LDA a16` (R116). -/
def execLda (addr : Word) (s : State) : Result := .next (loadDirect addr s)

/-- `STA a16` (R117). -/
def execSta (addr : Word) (s : State) : Result := .next (storeDirect addr s)

/-- `LHLD a16` (R118). -/
def execLhld (addr : Word) (s : State) : Result := .next (loadHlDirect addr s)

/-- `SHLD a16` (R119). -/
def execShld (addr : Word) (s : State) : Result := .next (storeHlDirect addr s)

/-- `LDAX B` (R120). -/
def execLdaxB (s : State) : Result := .next (loadIndirect .bc s)

/-- `LDAX D` (R120). -/
def execLdaxD (s : State) : Result := .next (loadIndirect .de s)

/-- `STAX B` (R121). -/
def execStaxB (s : State) : Result := .next (storeIndirect .bc s)

/-- `STAX D` (R121). -/
def execStaxD (s : State) : Result := .next (storeIndirect .de s)

/-- `XCHG` (R122). -/
def execXchg (s : State) : Result := .next (exchangeDeHl s)

end Sys2Proof.Machine
end

