-- ==== Sys2Proof/Machine/Logical.lean ====
section
/-! DEFINITION. The meanings of spec/42_logical.md (R170 to R188). PC stays `pcn`. -/

namespace Sys2Proof.Machine

/-! ### The shared operations -/

/-- `r` into A and `flagsLogic(r)`: CY and AC cleared (R170 to R178). -/
def logicTemplate (r : Byte) (s : State) : State := (s.setFlags (flagsLogic r s.flags)).setReg .a r

/-- `r <- x[A] & v` (R170 to R172). -/
def andTemplate (v : Byte) (s : State) : State := logicTemplate (s.reg .a &&& v) s

/-- `r <- x[A] ^ v` (R173 to R175). -/
def xorTemplate (v : Byte) (s : State) : State := logicTemplate (s.reg .a ^^^ v) s

/-- `r <- x[A] | v` (R176 to R178). -/
def orTemplate (v : Byte) (s : State) : State := logicTemplate (s.reg .a ||| v) s

/-- CMP-template(v): `t <- (a - v) mod 65536`; AC; flagsArith(t); A not written (42_logical section 2). -/
def cmpTemplate (v : Byte) (s : State) : State :=
  let a := s.reg .a
  let t : Word := a.zeroExtend 16 - v.zeroExtend 16
  s.setFlags (flagsArith t { s.flags with ac := acSub a v false })

/-- A rotate writes A and CY only (42_logical section 3). -/
def rotateTemplate (r : Byte) (cy : Bool) (s : State) : State := (s.setFlags { s.flags with cy := cy }).setReg .a r

/-- RLC: `CY <- a[7]; x[A] <- a[6:0] ++ a[7]` (R182). -/
def rotateLeft (s : State) : State :=
  let a := s.reg .a
  rotateTemplate (a.extractLsb' 0 7 ++ a.extractLsb' 7 1) (a.getLsbD 7) s

/-- RRC: `CY <- a[0]; x[A] <- a[0] ++ a[7:1]` (R183). -/
def rotateRight (s : State) : State :=
  let a := s.reg .a
  rotateTemplate (a.extractLsb' 0 1 ++ a.extractLsb' 1 7) (a.getLsbD 0) s

/-- RAL: `c <- CY; CY <- a[7]; x[A] <- a[6:0] ++ c` (R184). -/
def rotateLeftCarry (s : State) : State :=
  let a := s.reg .a
  rotateTemplate (a.extractLsb' 0 7 ++ BitVec.ofBool s.flags.cy) (a.getLsbD 7) s

/-- RAR: `c <- CY; CY <- a[0]; x[A] <- c ++ a[7:1]` (R185). -/
def rotateRightCarry (s : State) : State :=
  let a := s.reg .a
  rotateTemplate (BitVec.ofBool s.flags.cy ++ a.extractLsb' 1 7) (a.getLsbD 0) s

/-- `x[A] <- ~x[A]`, no flag (R186). -/
def complementA (s : State) : State := s.setReg .a (~~~ s.reg .a)

/-- `CY <- 1 - CY` (R187). -/
def complementCarry (s : State) : State := s.setFlags { s.flags with cy := !s.flags.cy }

/-- `CY <- 1` (R188). -/
def setCarry (s : State) : State := s.setFlags { s.flags with cy := true }

/-! ### The instructions -/

/-- `ANA B` (R170). -/
def execAnaB (s : State) : Result := .next (andTemplate (s.reg .b) s)

/-- `ANA C` (R170). -/
def execAnaC (s : State) : Result := .next (andTemplate (s.reg .c) s)

/-- `ANA D` (R170). -/
def execAnaD (s : State) : Result := .next (andTemplate (s.reg .d) s)

/-- `ANA E` (R170). -/
def execAnaE (s : State) : Result := .next (andTemplate (s.reg .e) s)

/-- `ANA H` (R170). -/
def execAnaH (s : State) : Result := .next (andTemplate (s.reg .h) s)

/-- `ANA L` (R170). -/
def execAnaL (s : State) : Result := .next (andTemplate (s.reg .l) s)

/-- `ANA A` (R170). -/
def execAnaA (s : State) : Result := .next (andTemplate (s.reg .a) s)

/-- `ANA M` (R171). -/
def execAnaM (s : State) : Result := .next (andTemplate s.operandM s)

/-- `ANI d8` (R172). -/
def execAni (d8 : Byte) (s : State) : Result := .next (andTemplate d8 s)

/-- `XRA B` (R173). -/
def execXraB (s : State) : Result := .next (xorTemplate (s.reg .b) s)

/-- `XRA C` (R173). -/
def execXraC (s : State) : Result := .next (xorTemplate (s.reg .c) s)

/-- `XRA D` (R173). -/
def execXraD (s : State) : Result := .next (xorTemplate (s.reg .d) s)

/-- `XRA E` (R173). -/
def execXraE (s : State) : Result := .next (xorTemplate (s.reg .e) s)

/-- `XRA H` (R173). -/
def execXraH (s : State) : Result := .next (xorTemplate (s.reg .h) s)

/-- `XRA L` (R173). -/
def execXraL (s : State) : Result := .next (xorTemplate (s.reg .l) s)

/-- `XRA A` (R173). -/
def execXraA (s : State) : Result := .next (xorTemplate (s.reg .a) s)

/-- `XRA M` (R174). -/
def execXraM (s : State) : Result := .next (xorTemplate s.operandM s)

/-- `XRI d8` (R175). -/
def execXri (d8 : Byte) (s : State) : Result := .next (xorTemplate d8 s)

/-- `ORA B` (R176). -/
def execOraB (s : State) : Result := .next (orTemplate (s.reg .b) s)

/-- `ORA C` (R176). -/
def execOraC (s : State) : Result := .next (orTemplate (s.reg .c) s)

/-- `ORA D` (R176). -/
def execOraD (s : State) : Result := .next (orTemplate (s.reg .d) s)

/-- `ORA E` (R176). -/
def execOraE (s : State) : Result := .next (orTemplate (s.reg .e) s)

/-- `ORA H` (R176). -/
def execOraH (s : State) : Result := .next (orTemplate (s.reg .h) s)

/-- `ORA L` (R176). -/
def execOraL (s : State) : Result := .next (orTemplate (s.reg .l) s)

/-- `ORA A` (R176). -/
def execOraA (s : State) : Result := .next (orTemplate (s.reg .a) s)

/-- `ORA M` (R177). -/
def execOraM (s : State) : Result := .next (orTemplate s.operandM s)

/-- `ORI d8` (R178). -/
def execOri (d8 : Byte) (s : State) : Result := .next (orTemplate d8 s)

/-- `CMP B` (R179). -/
def execCmpB (s : State) : Result := .next (cmpTemplate (s.reg .b) s)

/-- `CMP C` (R179). -/
def execCmpC (s : State) : Result := .next (cmpTemplate (s.reg .c) s)

/-- `CMP D` (R179). -/
def execCmpD (s : State) : Result := .next (cmpTemplate (s.reg .d) s)

/-- `CMP E` (R179). -/
def execCmpE (s : State) : Result := .next (cmpTemplate (s.reg .e) s)

/-- `CMP H` (R179). -/
def execCmpH (s : State) : Result := .next (cmpTemplate (s.reg .h) s)

/-- `CMP L` (R179). -/
def execCmpL (s : State) : Result := .next (cmpTemplate (s.reg .l) s)

/-- `CMP A` (R179). -/
def execCmpA (s : State) : Result := .next (cmpTemplate (s.reg .a) s)

/-- `CMP M` (R180). -/
def execCmpM (s : State) : Result := .next (cmpTemplate s.operandM s)

/-- `CPI d8` (R181). -/
def execCpi (d8 : Byte) (s : State) : Result := .next (cmpTemplate d8 s)

/-- `RLC` (R182). -/
def execRlc (s : State) : Result := .next (rotateLeft s)

/-- `RRC` (R183). -/
def execRrc (s : State) : Result := .next (rotateRight s)

/-- `RAL` (R184). -/
def execRal (s : State) : Result := .next (rotateLeftCarry s)

/-- `RAR` (R185). -/
def execRar (s : State) : Result := .next (rotateRightCarry s)

/-- `CMA` (R186). -/
def execCma (s : State) : Result := .next (complementA s)

/-- `CMC` (R187). -/
def execCmc (s : State) : Result := .next (complementCarry s)

/-- `STC` (R188). -/
def execStc (s : State) : Result := .next (setCarry s)

end Sys2Proof.Machine
end

