-- ==== Sys2Proof/Machine/StackIo.lean ====
section
/-! DEFINITION. The meanings of spec/44_stack_io_machine.md (R221 to R232). Only POP PSW writes flags; PC stays `pcn`. -/

namespace Sys2Proof.Machine

/-! ### The shared operations -/

/-- `push16(rp)` (R221). -/
def pushPair (p : Pair) (s : State) : State := s.push16 (s.pair p)

/-- `push16(x[A] ++ pack(flags))` (R222). -/
def pushPsw (s : State) : State := s.push16 s.psw

/-- `rp <- pop16()` (R223). -/
def popPair (p : Pair) (s : State) : State := s.popped.setPair p s.topWord

/-- `w <- pop16(); unpack(w[7:0]); x[A] <- w[15:8]` (R224). -/
def popPsw (s : State) : State := s.popped.setPsw s.topWord

/-- XTHL: both stack bytes read, then both written, then L and H (R225). -/
def exchangeTopHl (s : State) : State :=
  let lo := s.load s.sp
  let hi := s.load (s.sp + 1)
  let s1 := (s.store s.sp (s.reg .l)).store (s.sp + 1) (s.reg .h)
  (s1.setReg .l lo).setReg .h hi

/-- `SP <- HL` (R228). -/
def loadSpFromHl (s : State) : State := s.setSp s.hl

/-- IN: nothing beyond the fetch of its port byte; A, the flags and memory keep their values (R226). `IO_HOOK` is
absent (D11, log entry 5). -/
def inputPort (_port : Byte) (s : State) : State := s

/-- OUT: nothing beyond the fetch of its port byte (R227). -/
def outputPort (_port : Byte) (s : State) : State := s

/-! ### The instructions -/

/-- `PUSH B` (R221). -/
def execPushB (s : State) : Result := .next (pushPair .bc s)

/-- `PUSH D` (R221). -/
def execPushD (s : State) : Result := .next (pushPair .de s)

/-- `PUSH H` (R221). -/
def execPushH (s : State) : Result := .next (pushPair .hl s)

/-- `PUSH PSW` (R222). -/
def execPushPsw (s : State) : Result := .next (pushPsw s)

/-- `POP B` (R223). -/
def execPopB (s : State) : Result := .next (popPair .bc s)

/-- `POP D` (R223). -/
def execPopD (s : State) : Result := .next (popPair .de s)

/-- `POP H` (R223). -/
def execPopH (s : State) : Result := .next (popPair .hl s)

/-- `POP PSW` (R224). -/
def execPopPsw (s : State) : Result := .next (popPsw s)

/-- `XTHL` (R225). -/
def execXthl (s : State) : Result := .next (exchangeTopHl s)

/-- `IN p8` (R226). -/
def execInPort (port : Byte) (s : State) : Result := .next (inputPort port s)

/-- `OUT p8` (R227). -/
def execOutPort (port : Byte) (s : State) : Result := .next (outputPort port s)

/-- `SPHL` (R228). -/
def execSphl (s : State) : Result := .next (loadSpFromHl s)

/-- `EI` (R229). -/
def execEi (s : State) : Result := .next (s.setInte true)

/-- `DI` (R230). -/
def execDi (s : State) : Result := .next (s.setInte false)

/-- `NOP` (R231). -/
def execNop (s : State) : Result := .next s

/-- `HLT` (R232). -/
def execHlt (s : State) : Result := .next (s.halt)

end Sys2Proof.Machine
end

