-- ==== Sys2Proof/Machine/Undefined.lean ====
section
/-! DEFINITION. The twelve undefined opcodes (30_encoding R88, 60_exceptions R241): each takes the core's one exception,
with its own byte as the reported opcode. -/

namespace Sys2Proof.Machine

/-- `*UNDEF_08` (R241). -/
def execUndef08 (s : State) : Result := .next (s.takeTrap 0x08)

/-- `*UNDEF_10` (R241). -/
def execUndef10 (s : State) : Result := .next (s.takeTrap 0x10)

/-- `*UNDEF_18` (R241). -/
def execUndef18 (s : State) : Result := .next (s.takeTrap 0x18)

/-- `*UNDEF_20` (R241). -/
def execUndef20 (s : State) : Result := .next (s.takeTrap 0x20)

/-- `*UNDEF_28` (R241). -/
def execUndef28 (s : State) : Result := .next (s.takeTrap 0x28)

/-- `*UNDEF_30` (R241). -/
def execUndef30 (s : State) : Result := .next (s.takeTrap 0x30)

/-- `*UNDEF_38` (R241). -/
def execUndef38 (s : State) : Result := .next (s.takeTrap 0x38)

/-- `*UNDEF_CB` (R241). -/
def execUndefCB (s : State) : Result := .next (s.takeTrap 0xCB)

/-- `*UNDEF_D9` (R241). -/
def execUndefD9 (s : State) : Result := .next (s.takeTrap 0xD9)

/-- `*UNDEF_DD` (R241). -/
def execUndefDD (s : State) : Result := .next (s.takeTrap 0xDD)

/-- `*UNDEF_ED` (R241). -/
def execUndefED (s : State) : Result := .next (s.takeTrap 0xED)

/-- `*UNDEF_FD` (R241). -/
def execUndefFD (s : State) : Result := .next (s.takeTrap 0xFD)

end Sys2Proof.Machine
end

