-- ==== Sys2Proof/Machine/Lengths.lean ====
section
/-! DEFINITION. The length function of 30_encoding R94, on the opcode byte alone (R80). -/

namespace Sys2Proof.Machine

/-- The 26 three-byte opcodes: LXI; SHLD, LHLD, STA, LDA; Jcc; JMP; Ccc; CALL (30_encoding R94). -/
def threeByteOpcodes : List Byte :=
  [0x01, 0x11, 0x21, 0x31] ++ [0x22, 0x2A, 0x32, 0x3A]
    ++ [0xC2, 0xCA, 0xD2, 0xDA, 0xE2, 0xEA, 0xF2, 0xFA] ++ [0xC3]
    ++ [0xC4, 0xCC, 0xD4, 0xDC, 0xE4, 0xEC, 0xF4, 0xFC] ++ [0xCD]

/-- The 18 two-byte opcodes: MVI; the immediate ALU instructions; OUT; IN (30_encoding R94). -/
def twoByteOpcodes : List Byte :=
  [0x06, 0x0E, 0x16, 0x1E, 0x26, 0x2E, 0x36, 0x3E]
    ++ [0xC6, 0xCE, 0xD6, 0xDE, 0xE6, 0xEE, 0xF6, 0xFE] ++ [0xD3] ++ [0xDB]

/-- `length(opcode)` (30_encoding R94); every other opcode, the twelve undefined ones among them, has one byte. -/
def opcodeLength (op : Byte) : Nat :=
  if threeByteOpcodes.contains op then 3 else if twoByteOpcodes.contains op then 2 else 1

end Sys2Proof.Machine
end

