-- ==== Sys2Proof/WellFormed.lean ====
section
/-! DEFINITION. Two checks of raw input. A byte string is ONE instruction when it is not empty and has exactly the
length its first byte calls for (30_encoding R80, R94). A launch is loadable when the image fits between the load
offset and 0xFFFF (70_reset R272, 92 D24). A term of `Instr` needs no check of its own: its operands carry their widths
in their types (`Instr.wellFormed` in Decode.lean checks its encoding). -/

namespace Sys2Proof

/-- The bytes are exactly one instruction (30_encoding R80, R94). -/
def wellFormedBytes : List Byte → Bool
  | [] => false
  | op :: rest => rest.length + 1 == Machine.opcodeLength op

/-- What the loader brings: an image and the offset it is written at, `LOAD_OFFSET` (20_memory R67). -/
structure Launch where
  offset : Nat
  image : List Byte
  deriving DecidableEq, Repr

/-- `LOAD_OFFSET + length(image) <= 65536` (70_reset R272). -/
def Launch.wellFormed (l : Launch) : Bool :=
  l.offset + l.image.length ≤ Config.memSize

end Sys2Proof
end

