-- ==== Sys2Proof/Decode.lean ====
section
/-! DEFINITION. The decoder, the grid of 30_encoding R87 read by its high and low hex digit, and after it the encoder,
written row by row from spec/opcode_table.json. Every byte decodes: the twelve undefined ones to their own rows, never to
a neighbour (R88). A byte string is refused by name when it is empty or stops before its operand bytes. -/

namespace Sys2Proof

open Sys2Proof.Machine (joinBytes hiByte loByte opcodeLength)

/-! ### The codes of the fields inside the opcode byte -/

/-- `ddd`, `sss` (30_encoding R82); code 110 is M. -/
def regCode : Reg → BitVec 3
  | .b => 0b000
  | .c => 0b001
  | .d => 0b010
  | .e => 0b011
  | .h => 0b100
  | .l => 0b101
  | .a => 0b111

/-- The code of M in a register field (30_encoding R82). -/
def memCode : BitVec 3 := 0b110

/-- `pp` of PUSH, POP (30_encoding R83); code 11 is PSW there. -/
def pairCode : Pair → BitVec 2
  | .bc => 0b00
  | .de => 0b01
  | .hl => 0b10

/-- `pp` of LXI, DAD, INX, DCX (30_encoding R83). -/
def rpCode : Rp → BitVec 2
  | .pair p => pairCode p
  | .sp => 0b11

/-- Bit 4 of LDAX, STAX (30_encoding R83). -/
def addrPairCode : AddrPair → BitVec 1
  | .bc => 0b0
  | .de => 0b1

/-- `ccc` (30_encoding R84). -/
def condCode : Cond → BitVec 3
  | .nz => 0b000
  | .z => 0b001
  | .nc => 0b010
  | .c => 0b011
  | .po => 0b100
  | .pe => 0b101
  | .p => 0b110
  | .m => 0b111

/-- `ooo` (30_encoding R85). -/
def aluCode : AluOp → BitVec 3
  | .add => 0b000
  | .adc => 0b001
  | .sub => 0b010
  | .sbb => 0b011
  | .ana => 0b100
  | .xra => 0b101
  | .ora => 0b110
  | .cmp => 0b111

/-! ### The decoder: the rows of 30_encoding R87 -/

/-- Row 0x of the grid. -/
def gridRow0 (lo : BitVec 4) (d8 : Byte) (d16 : Word) : Instr :=
  match lo with
  | 0x0#4 => .nop
  | 0x1#4 => .lxiB d16
  | 0x2#4 => .staxB
  | 0x3#4 => .inxB
  | 0x4#4 => .inrB
  | 0x5#4 => .dcrB
  | 0x6#4 => .mviB d8
  | 0x7#4 => .rlc
  | 0x8#4 => .undef08
  | 0x9#4 => .dadB
  | 0xA#4 => .ldaxB
  | 0xB#4 => .dcxB
  | 0xC#4 => .inrC
  | 0xD#4 => .dcrC
  | 0xE#4 => .mviC d8
  | _ => .rrc

/-- Row 1x of the grid. -/
def gridRow1 (lo : BitVec 4) (d8 : Byte) (d16 : Word) : Instr :=
  match lo with
  | 0x0#4 => .undef10
  | 0x1#4 => .lxiD d16
  | 0x2#4 => .staxD
  | 0x3#4 => .inxD
  | 0x4#4 => .inrD
  | 0x5#4 => .dcrD
  | 0x6#4 => .mviD d8
  | 0x7#4 => .ral
  | 0x8#4 => .undef18
  | 0x9#4 => .dadD
  | 0xA#4 => .ldaxD
  | 0xB#4 => .dcxD
  | 0xC#4 => .inrE
  | 0xD#4 => .dcrE
  | 0xE#4 => .mviE d8
  | _ => .rar

/-- Row 2x of the grid. -/
def gridRow2 (lo : BitVec 4) (d8 : Byte) (d16 : Word) : Instr :=
  match lo with
  | 0x0#4 => .undef20
  | 0x1#4 => .lxiH d16
  | 0x2#4 => .shld d16
  | 0x3#4 => .inxH
  | 0x4#4 => .inrH
  | 0x5#4 => .dcrH
  | 0x6#4 => .mviH d8
  | 0x7#4 => .daa
  | 0x8#4 => .undef28
  | 0x9#4 => .dadH
  | 0xA#4 => .lhld d16
  | 0xB#4 => .dcxH
  | 0xC#4 => .inrL
  | 0xD#4 => .dcrL
  | 0xE#4 => .mviL d8
  | _ => .cma

/-- Row 3x of the grid. -/
def gridRow3 (lo : BitVec 4) (d8 : Byte) (d16 : Word) : Instr :=
  match lo with
  | 0x0#4 => .undef30
  | 0x1#4 => .lxiSp d16
  | 0x2#4 => .sta d16
  | 0x3#4 => .inxSp
  | 0x4#4 => .inrM
  | 0x5#4 => .dcrM
  | 0x6#4 => .mviM d8
  | 0x7#4 => .stc
  | 0x8#4 => .undef38
  | 0x9#4 => .dadSp
  | 0xA#4 => .lda d16
  | 0xB#4 => .dcxSp
  | 0xC#4 => .inrA
  | 0xD#4 => .dcrA
  | 0xE#4 => .mviA d8
  | _ => .cmc

/-- Row 4x of the grid. -/
def gridRow4 (lo : BitVec 4) : Instr :=
  match lo with
  | 0x0#4 => .movBB
  | 0x1#4 => .movBC
  | 0x2#4 => .movBD
  | 0x3#4 => .movBE
  | 0x4#4 => .movBH
  | 0x5#4 => .movBL
  | 0x6#4 => .movBM
  | 0x7#4 => .movBA
  | 0x8#4 => .movCB
  | 0x9#4 => .movCC
  | 0xA#4 => .movCD
  | 0xB#4 => .movCE
  | 0xC#4 => .movCH
  | 0xD#4 => .movCL
  | 0xE#4 => .movCM
  | _ => .movCA

/-- Row 5x of the grid. -/
def gridRow5 (lo : BitVec 4) : Instr :=
  match lo with
  | 0x0#4 => .movDB
  | 0x1#4 => .movDC
  | 0x2#4 => .movDD
  | 0x3#4 => .movDE
  | 0x4#4 => .movDH
  | 0x5#4 => .movDL
  | 0x6#4 => .movDM
  | 0x7#4 => .movDA
  | 0x8#4 => .movEB
  | 0x9#4 => .movEC
  | 0xA#4 => .movED
  | 0xB#4 => .movEE
  | 0xC#4 => .movEH
  | 0xD#4 => .movEL
  | 0xE#4 => .movEM
  | _ => .movEA

/-- Row 6x of the grid. -/
def gridRow6 (lo : BitVec 4) : Instr :=
  match lo with
  | 0x0#4 => .movHB
  | 0x1#4 => .movHC
  | 0x2#4 => .movHD
  | 0x3#4 => .movHE
  | 0x4#4 => .movHH
  | 0x5#4 => .movHL
  | 0x6#4 => .movHM
  | 0x7#4 => .movHA
  | 0x8#4 => .movLB
  | 0x9#4 => .movLC
  | 0xA#4 => .movLD
  | 0xB#4 => .movLE
  | 0xC#4 => .movLH
  | 0xD#4 => .movLL
  | 0xE#4 => .movLM
  | _ => .movLA

/-- Row 7x of the grid. -/
def gridRow7 (lo : BitVec 4) : Instr :=
  match lo with
  | 0x0#4 => .movMB
  | 0x1#4 => .movMC
  | 0x2#4 => .movMD
  | 0x3#4 => .movME
  | 0x4#4 => .movMH
  | 0x5#4 => .movML
  | 0x6#4 => .hlt
  | 0x7#4 => .movMA
  | 0x8#4 => .movAB
  | 0x9#4 => .movAC
  | 0xA#4 => .movAD
  | 0xB#4 => .movAE
  | 0xC#4 => .movAH
  | 0xD#4 => .movAL
  | 0xE#4 => .movAM
  | _ => .movAA

/-- Row 8x of the grid. -/
def gridRow8 (lo : BitVec 4) : Instr :=
  match lo with
  | 0x0#4 => .addB
  | 0x1#4 => .addC
  | 0x2#4 => .addD
  | 0x3#4 => .addE
  | 0x4#4 => .addH
  | 0x5#4 => .addL
  | 0x6#4 => .addM
  | 0x7#4 => .addA
  | 0x8#4 => .adcB
  | 0x9#4 => .adcC
  | 0xA#4 => .adcD
  | 0xB#4 => .adcE
  | 0xC#4 => .adcH
  | 0xD#4 => .adcL
  | 0xE#4 => .adcM
  | _ => .adcA

/-- Row 9x of the grid. -/
def gridRow9 (lo : BitVec 4) : Instr :=
  match lo with
  | 0x0#4 => .subB
  | 0x1#4 => .subC
  | 0x2#4 => .subD
  | 0x3#4 => .subE
  | 0x4#4 => .subH
  | 0x5#4 => .subL
  | 0x6#4 => .subM
  | 0x7#4 => .subA
  | 0x8#4 => .sbbB
  | 0x9#4 => .sbbC
  | 0xA#4 => .sbbD
  | 0xB#4 => .sbbE
  | 0xC#4 => .sbbH
  | 0xD#4 => .sbbL
  | 0xE#4 => .sbbM
  | _ => .sbbA

/-- Row Ax of the grid. -/
def gridRowA (lo : BitVec 4) : Instr :=
  match lo with
  | 0x0#4 => .anaB
  | 0x1#4 => .anaC
  | 0x2#4 => .anaD
  | 0x3#4 => .anaE
  | 0x4#4 => .anaH
  | 0x5#4 => .anaL
  | 0x6#4 => .anaM
  | 0x7#4 => .anaA
  | 0x8#4 => .xraB
  | 0x9#4 => .xraC
  | 0xA#4 => .xraD
  | 0xB#4 => .xraE
  | 0xC#4 => .xraH
  | 0xD#4 => .xraL
  | 0xE#4 => .xraM
  | _ => .xraA

/-- Row Bx of the grid. -/
def gridRowB (lo : BitVec 4) : Instr :=
  match lo with
  | 0x0#4 => .oraB
  | 0x1#4 => .oraC
  | 0x2#4 => .oraD
  | 0x3#4 => .oraE
  | 0x4#4 => .oraH
  | 0x5#4 => .oraL
  | 0x6#4 => .oraM
  | 0x7#4 => .oraA
  | 0x8#4 => .cmpB
  | 0x9#4 => .cmpC
  | 0xA#4 => .cmpD
  | 0xB#4 => .cmpE
  | 0xC#4 => .cmpH
  | 0xD#4 => .cmpL
  | 0xE#4 => .cmpM
  | _ => .cmpA

/-- Row Cx of the grid. -/
def gridRowC (lo : BitVec 4) (d8 : Byte) (d16 : Word) : Instr :=
  match lo with
  | 0x0#4 => .rnz
  | 0x1#4 => .popB
  | 0x2#4 => .jnz d16
  | 0x3#4 => .jmp d16
  | 0x4#4 => .cnz d16
  | 0x5#4 => .pushB
  | 0x6#4 => .adi d8
  | 0x7#4 => .rst0
  | 0x8#4 => .rz
  | 0x9#4 => .ret
  | 0xA#4 => .jz d16
  | 0xB#4 => .undefCB
  | 0xC#4 => .cz d16
  | 0xD#4 => .call d16
  | 0xE#4 => .aci d8
  | _ => .rst1

/-- Row Dx of the grid. -/
def gridRowD (lo : BitVec 4) (d8 : Byte) (d16 : Word) : Instr :=
  match lo with
  | 0x0#4 => .rnc
  | 0x1#4 => .popD
  | 0x2#4 => .jnc d16
  | 0x3#4 => .outPort d8
  | 0x4#4 => .cnc d16
  | 0x5#4 => .pushD
  | 0x6#4 => .sui d8
  | 0x7#4 => .rst2
  | 0x8#4 => .rc
  | 0x9#4 => .undefD9
  | 0xA#4 => .jc d16
  | 0xB#4 => .inPort d8
  | 0xC#4 => .cc d16
  | 0xD#4 => .undefDD
  | 0xE#4 => .sbi d8
  | _ => .rst3

/-- Row Ex of the grid. -/
def gridRowE (lo : BitVec 4) (d8 : Byte) (d16 : Word) : Instr :=
  match lo with
  | 0x0#4 => .rpo
  | 0x1#4 => .popH
  | 0x2#4 => .jpo d16
  | 0x3#4 => .xthl
  | 0x4#4 => .cpo d16
  | 0x5#4 => .pushH
  | 0x6#4 => .ani d8
  | 0x7#4 => .rst4
  | 0x8#4 => .rpe
  | 0x9#4 => .pchl
  | 0xA#4 => .jpe d16
  | 0xB#4 => .xchg
  | 0xC#4 => .cpe d16
  | 0xD#4 => .undefED
  | 0xE#4 => .xri d8
  | _ => .rst5

/-- Row Fx of the grid. -/
def gridRowF (lo : BitVec 4) (d8 : Byte) (d16 : Word) : Instr :=
  match lo with
  | 0x0#4 => .rp
  | 0x1#4 => .popPsw
  | 0x2#4 => .jp d16
  | 0x3#4 => .di
  | 0x4#4 => .cp d16
  | 0x5#4 => .pushPsw
  | 0x6#4 => .ori d8
  | 0x7#4 => .rst6
  | 0x8#4 => .rm
  | 0x9#4 => .sphl
  | 0xA#4 => .jm d16
  | 0xB#4 => .ei
  | 0xC#4 => .cm d16
  | 0xD#4 => .undefFD
  | 0xE#4 => .cpi d8
  | _ => .rst7

/-- The instruction whose opcode byte is `op` and whose second and third bytes, where it has them, are `b2` and `b3`:
`d8 = b2`, `d16 = b3 ++ b2` (30_encoding R86, R87). Total: every byte is a row. -/
def decodeBytes (op b2 b3 : Byte) : Instr :=
  match op.extractLsb' 4 4 with
  | 0x0#4 => gridRow0 (op.extractLsb' 0 4) b2 (joinBytes b3 b2)
  | 0x1#4 => gridRow1 (op.extractLsb' 0 4) b2 (joinBytes b3 b2)
  | 0x2#4 => gridRow2 (op.extractLsb' 0 4) b2 (joinBytes b3 b2)
  | 0x3#4 => gridRow3 (op.extractLsb' 0 4) b2 (joinBytes b3 b2)
  | 0x4#4 => gridRow4 (op.extractLsb' 0 4)
  | 0x5#4 => gridRow5 (op.extractLsb' 0 4)
  | 0x6#4 => gridRow6 (op.extractLsb' 0 4)
  | 0x7#4 => gridRow7 (op.extractLsb' 0 4)
  | 0x8#4 => gridRow8 (op.extractLsb' 0 4)
  | 0x9#4 => gridRow9 (op.extractLsb' 0 4)
  | 0xA#4 => gridRowA (op.extractLsb' 0 4)
  | 0xB#4 => gridRowB (op.extractLsb' 0 4)
  | 0xC#4 => gridRowC (op.extractLsb' 0 4) b2 (joinBytes b3 b2)
  | 0xD#4 => gridRowD (op.extractLsb' 0 4) b2 (joinBytes b3 b2)
  | 0xE#4 => gridRowE (op.extractLsb' 0 4) b2 (joinBytes b3 b2)
  | _ => gridRowF (op.extractLsb' 0 4) b2 (joinBytes b3 b2)

/-- Why a byte string is not the start of an instruction. -/
inductive DecodeReject where
  /-- there is no opcode byte -/
  | noBytes
  /-- the opcode calls for more operand bytes than there are (30_encoding R80) -/
  | missingOperand (opcode : Byte)
  deriving DecidableEq, Repr

/-- The first instruction of a byte string, and the bytes after it (30_encoding R80, R94). -/
def decode : List Byte → Except DecodeReject (Instr × List Byte)
  | [] => .error .noBytes
  | op :: rest =>
    match opcodeLength op, rest with
    | 1, rest => .ok (decodeBytes op 0 0, rest)
    | 2, b2 :: rest => .ok (decodeBytes op b2 0, rest)
    | 3, b2 :: b3 :: rest => .ok (decodeBytes op b2 b3, rest)
    | _, _ => .error (.missingOperand op)

/-- The host's reading of one opcode-table row: `nbits` bits of `w`, byte 1 in bits 7:0, byte 2 in bits 15:8, byte 3
in bits 23:16, every bit above `nbits` zero. -/
def decodeTableWord (nbits w : Nat) : Option Instr :=
  let v := w % 2 ^ nbits
  match decode [BitVec.ofNat 8 v, BitVec.ofNat 8 (v / 256), BitVec.ofNat 8 (v / 65536)] with
  | .ok (i, _) => some i
  | .error _ => none

/-! ### The encoder -/

/-- Byte 1 of an instruction (spec/opcode_table.json, `match`). -/
def Instr.opcode : Instr → Byte
  | .movBB => 0x40
  | .movBC => 0x41
  | .movBD => 0x42
  | .movBE => 0x43
  | .movBH => 0x44
  | .movBL => 0x45
  | .movBA => 0x47
  | .movCB => 0x48
  | .movCC => 0x49
  | .movCD => 0x4A
  | .movCE => 0x4B
  | .movCH => 0x4C
  | .movCL => 0x4D
  | .movCA => 0x4F
  | .movDB => 0x50
  | .movDC => 0x51
  | .movDD => 0x52
  | .movDE => 0x53
  | .movDH => 0x54
  | .movDL => 0x55
  | .movDA => 0x57
  | .movEB => 0x58
  | .movEC => 0x59
  | .movED => 0x5A
  | .movEE => 0x5B
  | .movEH => 0x5C
  | .movEL => 0x5D
  | .movEA => 0x5F
  | .movHB => 0x60
  | .movHC => 0x61
  | .movHD => 0x62
  | .movHE => 0x63
  | .movHH => 0x64
  | .movHL => 0x65
  | .movHA => 0x67
  | .movLB => 0x68
  | .movLC => 0x69
  | .movLD => 0x6A
  | .movLE => 0x6B
  | .movLH => 0x6C
  | .movLL => 0x6D
  | .movLA => 0x6F
  | .movAB => 0x78
  | .movAC => 0x79
  | .movAD => 0x7A
  | .movAE => 0x7B
  | .movAH => 0x7C
  | .movAL => 0x7D
  | .movAA => 0x7F
  | .movBM => 0x46
  | .movCM => 0x4E
  | .movDM => 0x56
  | .movEM => 0x5E
  | .movHM => 0x66
  | .movLM => 0x6E
  | .movAM => 0x7E
  | .movMB => 0x70
  | .movMC => 0x71
  | .movMD => 0x72
  | .movME => 0x73
  | .movMH => 0x74
  | .movML => 0x75
  | .movMA => 0x77
  | .mviB _ => 0x06
  | .mviC _ => 0x0E
  | .mviD _ => 0x16
  | .mviE _ => 0x1E
  | .mviH _ => 0x26
  | .mviL _ => 0x2E
  | .mviA _ => 0x3E
  | .mviM _ => 0x36
  | .lxiB _ => 0x01
  | .lxiD _ => 0x11
  | .lxiH _ => 0x21
  | .lxiSp _ => 0x31
  | .lda _ => 0x3A
  | .sta _ => 0x32
  | .lhld _ => 0x2A
  | .shld _ => 0x22
  | .ldaxB => 0x0A
  | .ldaxD => 0x1A
  | .staxB => 0x02
  | .staxD => 0x12
  | .xchg => 0xEB
  | .addB => 0x80
  | .addC => 0x81
  | .addD => 0x82
  | .addE => 0x83
  | .addH => 0x84
  | .addL => 0x85
  | .addA => 0x87
  | .addM => 0x86
  | .adi _ => 0xC6
  | .adcB => 0x88
  | .adcC => 0x89
  | .adcD => 0x8A
  | .adcE => 0x8B
  | .adcH => 0x8C
  | .adcL => 0x8D
  | .adcA => 0x8F
  | .adcM => 0x8E
  | .aci _ => 0xCE
  | .subB => 0x90
  | .subC => 0x91
  | .subD => 0x92
  | .subE => 0x93
  | .subH => 0x94
  | .subL => 0x95
  | .subA => 0x97
  | .subM => 0x96
  | .sui _ => 0xD6
  | .sbbB => 0x98
  | .sbbC => 0x99
  | .sbbD => 0x9A
  | .sbbE => 0x9B
  | .sbbH => 0x9C
  | .sbbL => 0x9D
  | .sbbA => 0x9F
  | .sbbM => 0x9E
  | .sbi _ => 0xDE
  | .inrB => 0x04
  | .inrC => 0x0C
  | .inrD => 0x14
  | .inrE => 0x1C
  | .inrH => 0x24
  | .inrL => 0x2C
  | .inrA => 0x3C
  | .inrM => 0x34
  | .dcrB => 0x05
  | .dcrC => 0x0D
  | .dcrD => 0x15
  | .dcrE => 0x1D
  | .dcrH => 0x25
  | .dcrL => 0x2D
  | .dcrA => 0x3D
  | .dcrM => 0x35
  | .inxB => 0x03
  | .inxD => 0x13
  | .inxH => 0x23
  | .inxSp => 0x33
  | .dcxB => 0x0B
  | .dcxD => 0x1B
  | .dcxH => 0x2B
  | .dcxSp => 0x3B
  | .dadB => 0x09
  | .dadD => 0x19
  | .dadH => 0x29
  | .dadSp => 0x39
  | .daa => 0x27
  | .anaB => 0xA0
  | .anaC => 0xA1
  | .anaD => 0xA2
  | .anaE => 0xA3
  | .anaH => 0xA4
  | .anaL => 0xA5
  | .anaA => 0xA7
  | .anaM => 0xA6
  | .ani _ => 0xE6
  | .xraB => 0xA8
  | .xraC => 0xA9
  | .xraD => 0xAA
  | .xraE => 0xAB
  | .xraH => 0xAC
  | .xraL => 0xAD
  | .xraA => 0xAF
  | .xraM => 0xAE
  | .xri _ => 0xEE
  | .oraB => 0xB0
  | .oraC => 0xB1
  | .oraD => 0xB2
  | .oraE => 0xB3
  | .oraH => 0xB4
  | .oraL => 0xB5
  | .oraA => 0xB7
  | .oraM => 0xB6
  | .ori _ => 0xF6
  | .cmpB => 0xB8
  | .cmpC => 0xB9
  | .cmpD => 0xBA
  | .cmpE => 0xBB
  | .cmpH => 0xBC
  | .cmpL => 0xBD
  | .cmpA => 0xBF
  | .cmpM => 0xBE
  | .cpi _ => 0xFE
  | .rlc => 0x07
  | .rrc => 0x0F
  | .ral => 0x17
  | .rar => 0x1F
  | .cma => 0x2F
  | .cmc => 0x3F
  | .stc => 0x37
  | .jmp _ => 0xC3
  | .jnz _ => 0xC2
  | .jz _ => 0xCA
  | .jnc _ => 0xD2
  | .jc _ => 0xDA
  | .jpo _ => 0xE2
  | .jpe _ => 0xEA
  | .jp _ => 0xF2
  | .jm _ => 0xFA
  | .call _ => 0xCD
  | .cnz _ => 0xC4
  | .cz _ => 0xCC
  | .cnc _ => 0xD4
  | .cc _ => 0xDC
  | .cpo _ => 0xE4
  | .cpe _ => 0xEC
  | .cp _ => 0xF4
  | .cm _ => 0xFC
  | .ret => 0xC9
  | .rnz => 0xC0
  | .rz => 0xC8
  | .rnc => 0xD0
  | .rc => 0xD8
  | .rpo => 0xE0
  | .rpe => 0xE8
  | .rp => 0xF0
  | .rm => 0xF8
  | .rst0 => 0xC7
  | .rst1 => 0xCF
  | .rst2 => 0xD7
  | .rst3 => 0xDF
  | .rst4 => 0xE7
  | .rst5 => 0xEF
  | .rst6 => 0xF7
  | .rst7 => 0xFF
  | .pchl => 0xE9
  | .pushB => 0xC5
  | .pushD => 0xD5
  | .pushH => 0xE5
  | .pushPsw => 0xF5
  | .popB => 0xC1
  | .popD => 0xD1
  | .popH => 0xE1
  | .popPsw => 0xF1
  | .xthl => 0xE3
  | .inPort _ => 0xDB
  | .outPort _ => 0xD3
  | .sphl => 0xF9
  | .ei => 0xFB
  | .di => 0xF3
  | .nop => 0x00
  | .hlt => 0x76
  | .undef08 => 0x08
  | .undef10 => 0x10
  | .undef18 => 0x18
  | .undef20 => 0x20
  | .undef28 => 0x28
  | .undef30 => 0x30
  | .undef38 => 0x38
  | .undefCB => 0xCB
  | .undefD9 => 0xD9
  | .undefDD => 0xDD
  | .undefED => 0xED
  | .undefFD => 0xFD

/-- Bytes 2 and 3, low byte first (30_encoding R81, R86). -/
def Instr.operandBytes : Instr → List Byte
  | .lxiB v | .lxiD v | .lxiH v | .lxiSp v | .lda v | .sta v | .lhld v | .shld v | .jmp v | .jnz v | .jz v
  | .jnc v | .jc v | .jpo v | .jpe v | .jp v | .jm v | .call v | .cnz v | .cz v | .cnc v | .cc v | .cpo v
  | .cpe v | .cp v | .cm v => [loByte v, hiByte v]
  | .mviB v | .mviC v | .mviD v | .mviE v | .mviH v | .mviL v | .mviA v | .mviM v | .adi v | .aci v | .sui v
  | .sbi v | .ani v | .xri v | .ori v | .cpi v | .inPort v | .outPort v => [v]
  | .movBB | .movBC | .movBD | .movBE | .movBH | .movBL | .movBA | .movCB | .movCC | .movCD | .movCE | .movCH
  | .movCL | .movCA | .movDB | .movDC | .movDD | .movDE | .movDH | .movDL | .movDA | .movEB | .movEC | .movED
  | .movEE | .movEH | .movEL | .movEA | .movHB | .movHC | .movHD | .movHE | .movHH | .movHL | .movHA | .movLB
  | .movLC | .movLD | .movLE | .movLH | .movLL | .movLA | .movAB | .movAC | .movAD | .movAE | .movAH | .movAL
  | .movAA | .movBM | .movCM | .movDM | .movEM | .movHM | .movLM | .movAM | .movMB | .movMC | .movMD | .movME
  | .movMH | .movML | .movMA | .ldaxB | .ldaxD | .staxB | .staxD | .xchg | .addB | .addC | .addD | .addE
  | .addH | .addL | .addA | .addM | .adcB | .adcC | .adcD | .adcE | .adcH | .adcL | .adcA | .adcM | .subB
  | .subC | .subD | .subE | .subH | .subL | .subA | .subM | .sbbB | .sbbC | .sbbD | .sbbE | .sbbH | .sbbL
  | .sbbA | .sbbM | .inrB | .inrC | .inrD | .inrE | .inrH | .inrL | .inrA | .inrM | .dcrB | .dcrC | .dcrD
  | .dcrE | .dcrH | .dcrL | .dcrA | .dcrM | .inxB | .inxD | .inxH | .inxSp | .dcxB | .dcxD | .dcxH | .dcxSp
  | .dadB | .dadD | .dadH | .dadSp | .daa | .anaB | .anaC | .anaD | .anaE | .anaH | .anaL | .anaA | .anaM
  | .xraB | .xraC | .xraD | .xraE | .xraH | .xraL | .xraA | .xraM | .oraB | .oraC | .oraD | .oraE | .oraH
  | .oraL | .oraA | .oraM | .cmpB | .cmpC | .cmpD | .cmpE | .cmpH | .cmpL | .cmpA | .cmpM | .rlc | .rrc
  | .ral | .rar | .cma | .cmc | .stc | .ret | .rnz | .rz | .rnc | .rc | .rpo | .rpe | .rp | .rm | .rst0
  | .rst1 | .rst2 | .rst3 | .rst4 | .rst5 | .rst6 | .rst7 | .pchl | .pushB | .pushD | .pushH | .pushPsw
  | .popB | .popD | .popH | .popPsw | .xthl | .sphl | .ei | .di | .nop | .hlt | .undef08 | .undef10
  | .undef18 | .undef20 | .undef28 | .undef30 | .undef38 | .undefCB | .undefD9 | .undefDD | .undefED
  | .undefFD => []

/-- The bytes of an instruction, in the order they lie in memory (30_encoding R81). -/
def encode (i : Instr) : List Byte := i.opcode :: i.operandBytes

/-- The instruction's bytes are one instruction (WellFormed.lean). Every term of `Instr` passes. -/
def Instr.wellFormed (i : Instr) : Bool := wellFormedBytes (encode i)

end Sys2Proof
end

