-- ==== Sys2Proof/Machine/Fetch.lean ====
section
/-! DEFINITION. The fetch of 30_encoding R90, what a step of a terminal state does (60_exceptions R252), and the
placing of a table row's bytes where the next step fetches. -/

namespace Sys2Proof.Machine

/-- The bytes at PC, PC+1 and PC+2 modulo 65536: an instruction's bytes and, where it is shorter, bytes the decoder
does not use. Reading memory changes nothing (20_memory R57), so reading them all is not observable (log entry 14). -/
def fetchBytes (s : State) : List Byte := [s.load s.pc, s.load (s.pc + 1), s.load (s.pc + 2)]

/-- The instruction at PC (30_encoding R90). -/
def fetchInstr (s : State) : Instr := decodeBytes (s.load s.pc) (s.load (s.pc + 1)) (s.load (s.pc + 2))

/-- The state in which the instruction's rule runs: `PC = pcn = (pc0 + length(opcode)) mod 65536` (30_encoding R90,
00_scope R13). -/
def afterFetch (s : State) : State := s.setPc (s.pc + BitVec.ofNat 16 (opcodeLength (s.load s.pc)))

/-- `step` on a HALTED or TRAPPED core: the unchanged state, whose RUN says which terminal outcome it is
(60_exceptions R252, D14). -/
def terminalStep (s : State) : Result := .next s

/-- The bytes of a table row stored at PC, PC+1, PC+2 and RUN = RUNNING, which is all the fetch needs. -/
def placeWord (s : State) (nbits w : Nat) : State :=
  let v := w % 2 ^ nbits
  let s1 := s.store s.pc (BitVec.ofNat 8 v)
  let s2 := s1.store (s.pc + 1) (BitVec.ofNat 8 (v / 256))
  let s3 := s2.store (s.pc + 2) (BitVec.ofNat 8 (v / 65536))
  { s3 with run := .running }

end Sys2Proof.Machine
end

