-- ==== Sys2Proof/Machine/Step.lean ====
section
/-! DEFINITION. One step (30_encoding R90, 60_exceptions R252). -/

namespace Sys2Proof.Machine

/-- One invocation of `step`: one whole instruction while RUN = RUNNING, nothing in a terminal state. -/
def step (s : State) : Host.Outcome State Fault Refusal :=
  match s.run with
  | .running => exec (fetchInstr s) (afterFetch s)
  | .halted => terminalStep s
  | .trapped => terminalStep s

/-- The state whose very next step fetches and runs the row whose bits are `w` (`nbits` of them, the rest zero). -/
def State.withFetchWord (s : State) (nbits w : Nat) : State := placeWord s nbits w

end Sys2Proof.Machine
end

