-- ==== Sys2Proof/Machine/Boot.lean ====
section
/-! DEFINITION. The loader's port (20_memory R67) and `boot` (70_reset R272): how a program comes to stand in memory
before the first step. -/

namespace Sys2Proof.Machine

/-- `mem[offset + i] <- image[i]` for each byte of the image. -/
def State.writeImage (s : State) (offset : Nat) : List Byte → State
  | [] => s
  | b :: rest => (s.store (BitVec.ofNat 16 offset) b).writeImage (offset + 1) rest

/-- `boot(image, LOAD_OFFSET)`: the reset state with the image in memory; a launch that does not fit is refused
(70_reset R272, D24). PC stays 0. -/
def boot (l : Launch) : Option State :=
  if l.wellFormed then some (State.reset.writeImage l.offset l.image) else none

end Sys2Proof.Machine
end

