-- ==== Sys2Proof/Machine/Cycles.lean ====
section
/-! DEFINITION. `CYCLES`, the cycle count of each instruction (70_reset R276, default D17): an output of the step, which
no rule and no state depends on. -/

namespace Sys2Proof.Machine

/-- The condition a Jcc, Ccc or Rcc tests; every other row is unconditional. -/
def instrCondition : Instr → Option Cond
  | .jnz _ | .cnz _ | .rnz => some .nz
  | .jz _ | .cz _ | .rz => some .z
  | .jnc _ | .cnc _ | .rnc => some .nc
  | .jc _ | .cc _ | .rc => some .c
  | .jpo _ | .cpo _ | .rpo => some .po
  | .jpe _ | .cpe _ | .rpe => some .pe
  | .jp _ | .cp _ | .rp => some .p
  | .jm _ | .cm _ | .rm => some .m
  | _ => none

/-- Whether a conditional instruction's condition holds in the flags before it (43_branch R200); an unconditional one
counts as taken. -/
def taken (i : Instr) (f : Flags) : Bool :=
  match instrCondition i with
  | some cond => condHolds cond f
  | none => true

/-- `cycles(opcode, taken)` (70_reset R276). An undefined opcode has none: its step returns Trap, not a count. -/
def cycles (i : Instr) (taken : Bool) : Option Nat :=
  match i with
  | .xchg | .addB | .addC | .addD | .addE | .addH | .addL | .addA | .adcB | .adcC | .adcD | .adcE | .adcH
  | .adcL | .adcA | .subB | .subC | .subD | .subE | .subH | .subL | .subA | .sbbB | .sbbC | .sbbD | .sbbE
  | .sbbH | .sbbL | .sbbA | .daa | .anaB | .anaC | .anaD | .anaE | .anaH | .anaL | .anaA | .xraB | .xraC
  | .xraD | .xraE | .xraH | .xraL | .xraA | .oraB | .oraC | .oraD | .oraE | .oraH | .oraL | .oraA | .cmpB
  | .cmpC | .cmpD | .cmpE | .cmpH | .cmpL | .cmpA | .rlc | .rrc | .ral | .rar | .cma | .cmc | .stc | .ei
  | .di | .nop => some 4
  | .movBB | .movBC | .movBD | .movBE | .movBH | .movBL | .movBA | .movCB | .movCC | .movCD | .movCE | .movCH
  | .movCL | .movCA | .movDB | .movDC | .movDD | .movDE | .movDH | .movDL | .movDA | .movEB | .movEC | .movED
  | .movEE | .movEH | .movEL | .movEA | .movHB | .movHC | .movHD | .movHE | .movHH | .movHL | .movHA | .movLB
  | .movLC | .movLD | .movLE | .movLH | .movLL | .movLA | .movAB | .movAC | .movAD | .movAE | .movAH | .movAL
  | .movAA | .inrB | .inrC | .inrD | .inrE | .inrH | .inrL | .inrA | .dcrB | .dcrC | .dcrD | .dcrE | .dcrH
  | .dcrL | .dcrA | .inxB | .inxD | .inxH | .inxSp | .dcxB | .dcxD | .dcxH | .dcxSp | .pchl | .sphl => some 5
  | .movBM | .movCM | .movDM | .movEM | .movHM | .movLM | .movAM | .movMB | .movMC | .movMD | .movME | .movMH
  | .movML | .movMA | .mviB _ | .mviC _ | .mviD _ | .mviE _ | .mviH _ | .mviL _ | .mviA _ | .ldaxB | .ldaxD
  | .staxB | .staxD | .addM | .adi _ | .adcM | .aci _ | .subM | .sui _ | .sbbM | .sbi _ | .anaM | .ani _
  | .xraM | .xri _ | .oraM | .ori _ | .cmpM | .cpi _ | .hlt => some 7
  | .mviM _ | .lxiB _ | .lxiD _ | .lxiH _ | .lxiSp _ | .inrM | .dcrM | .dadB | .dadD | .dadH | .dadSp
  | .jmp _ | .jnz _ | .jz _ | .jnc _ | .jc _ | .jpo _ | .jpe _ | .jp _ | .jm _ | .ret | .popB | .popD | .popH
  | .popPsw | .inPort _ | .outPort _ => some 10
  | .rst0 | .rst1 | .rst2 | .rst3 | .rst4 | .rst5 | .rst6 | .rst7 | .pushB | .pushD | .pushH | .pushPsw => some 11
  | .lda _ | .sta _ => some 13
  | .lhld _ | .shld _ => some 16
  | .call _ => some 17
  | .xthl => some 18
  | .cnz _ | .cz _ | .cnc _ | .cc _ | .cpo _ | .cpe _ | .cp _ | .cm _ => some (if taken then 17 else 11)
  | .rnz | .rz | .rnc | .rc | .rpo | .rpe | .rp | .rm => some (if taken then 11 else 5)
  | .undef08 | .undef10 | .undef18 | .undef20 | .undef28 | .undef30 | .undef38 | .undefCB | .undefD9
  | .undefDD | .undefED | .undefFD => none

end Sys2Proof.Machine
end

