-- ==== Sys2Proof/Machine/Contract.lean ====
section
/-! DEFINITION. The contract of `step` as 00_scope R9 writes it, with the cycle count of 70_reset R276 as its output. The
same step, seen with the three outcomes of the spec: the halt and the trap are out-of-band outcomes there, and next
states with RUN = HALTED or TRAPPED in `step`. -/

namespace Sys2Proof.Machine

/-- `Outcome` of 00_scope R9. -/
inductive StepOutcome where
  /-- `Ok(state', cycles)` -/
  | ok (s : State) (cycles : Nat)
  /-- `Halted(state', cycles)` -/
  | halted (s : State) (cycles : Nat)
  /-- `Trap(state', opcode, pc)` -/
  | trap (s : State) (opcode : Byte) (pc : Word)
  deriving DecidableEq, Repr

/-- The state after one step. `step` always answers a next state (60_exceptions R255). -/
def stepState (s : State) : State :=
  match step s with
  | .next t => t
  | .fault _ => s
  | .refused _ => s

/-- The cycles of the instruction at PC, with its condition read from the flags before it (43_branch R200). -/
def stepCycles (s : State) : Nat := (cycles (fetchInstr s) (taken (fetchInstr s) s.flags)).getD 0

/-- The cycles a `Halted` outcome carries: HLT's (44_stack R232, D12), on the step of HLT and on any later call
of `step` on the halted core, which returns the same outcome (60_exceptions R252). -/
def haltCycles : Nat := (cycles .hlt true).getD 0

/-- `step` with the outcomes of 00_scope R9. -/
def coreStep (s : State) : StepOutcome :=
  let t := stepState s
  match t.run with
  | .running => .ok t (stepCycles s)
  | .halted => .halted t haltCycles
  | .trapped => .trap t t.trapOpcode t.trapPc

end Sys2Proof.Machine
end

