-- ==== Sys2Proof/Machine/Forms.lean ====
section
/-! DEFINITION. The rows of the opcode table as the spec's instruction forms: `MOV r1,r2` is `Instr.mov r1 r2`, and so on
for every form of 40_data_transfer to 44_stack_io_machine and for the undefined opcodes. Claims about a form are stated with
these; the encoder and the decoder (Decode.lean) do not use them. -/

namespace Sys2Proof

/-- The twelve undefined opcode bytes (30_encoding R88). -/
inductive UndefOp where
  | x08
  | x10
  | x18
  | x20
  | x28
  | x30
  | x38
  | xCB
  | xD9
  | xDD
  | xED
  | xFD
  deriving DecidableEq, Repr

/-- MOV r1,r2 (40_data_transfer R110). -/
def Instr.mov : Reg → Reg → Instr
  | .b, .b => .movBB
  | .b, .c => .movBC
  | .b, .d => .movBD
  | .b, .e => .movBE
  | .b, .h => .movBH
  | .b, .l => .movBL
  | .b, .a => .movBA
  | .c, .b => .movCB
  | .c, .c => .movCC
  | .c, .d => .movCD
  | .c, .e => .movCE
  | .c, .h => .movCH
  | .c, .l => .movCL
  | .c, .a => .movCA
  | .d, .b => .movDB
  | .d, .c => .movDC
  | .d, .d => .movDD
  | .d, .e => .movDE
  | .d, .h => .movDH
  | .d, .l => .movDL
  | .d, .a => .movDA
  | .e, .b => .movEB
  | .e, .c => .movEC
  | .e, .d => .movED
  | .e, .e => .movEE
  | .e, .h => .movEH
  | .e, .l => .movEL
  | .e, .a => .movEA
  | .h, .b => .movHB
  | .h, .c => .movHC
  | .h, .d => .movHD
  | .h, .e => .movHE
  | .h, .h => .movHH
  | .h, .l => .movHL
  | .h, .a => .movHA
  | .l, .b => .movLB
  | .l, .c => .movLC
  | .l, .d => .movLD
  | .l, .e => .movLE
  | .l, .h => .movLH
  | .l, .l => .movLL
  | .l, .a => .movLA
  | .a, .b => .movAB
  | .a, .c => .movAC
  | .a, .d => .movAD
  | .a, .e => .movAE
  | .a, .h => .movAH
  | .a, .l => .movAL
  | .a, .a => .movAA

/-- MOV r,M (R111). -/
def Instr.movFromM : Reg → Instr
  | .b => .movBM
  | .c => .movCM
  | .d => .movDM
  | .e => .movEM
  | .h => .movHM
  | .l => .movLM
  | .a => .movAM

/-- MOV M,r (R112). -/
def Instr.movToM : Reg → Instr
  | .b => .movMB
  | .c => .movMC
  | .d => .movMD
  | .e => .movME
  | .h => .movMH
  | .l => .movML
  | .a => .movMA

/-- MVI r,d8 (R113). -/
def Instr.mvi : Reg → Byte → Instr
  | .b, d8 => .mviB d8
  | .c, d8 => .mviC d8
  | .d, d8 => .mviD d8
  | .e, d8 => .mviE d8
  | .h, d8 => .mviH d8
  | .l, d8 => .mviL d8
  | .a, d8 => .mviA d8

/-- LXI rp,d16 (R115). -/
def Instr.lxi : Rp → Word → Instr
  | .pair .bc, d16 => .lxiB d16
  | .pair .de, d16 => .lxiD d16
  | .pair .hl, d16 => .lxiH d16
  | .sp, d16 => .lxiSp d16

/-- LDAX rp (R120). -/
def Instr.ldax : AddrPair → Instr
  | .bc => .ldaxB
  | .de => .ldaxD

/-- STAX rp (R121). -/
def Instr.stax : AddrPair → Instr
  | .bc => .staxB
  | .de => .staxD

/-- ADD, ADC, SUB, SBB, ANA, XRA, ORA, CMP with a register operand (30_encoding R85). -/
def Instr.aluReg : AluOp → Reg → Instr
  | .add, .b => .addB
  | .add, .c => .addC
  | .add, .d => .addD
  | .add, .e => .addE
  | .add, .h => .addH
  | .add, .l => .addL
  | .add, .a => .addA
  | .adc, .b => .adcB
  | .adc, .c => .adcC
  | .adc, .d => .adcD
  | .adc, .e => .adcE
  | .adc, .h => .adcH
  | .adc, .l => .adcL
  | .adc, .a => .adcA
  | .sub, .b => .subB
  | .sub, .c => .subC
  | .sub, .d => .subD
  | .sub, .e => .subE
  | .sub, .h => .subH
  | .sub, .l => .subL
  | .sub, .a => .subA
  | .sbb, .b => .sbbB
  | .sbb, .c => .sbbC
  | .sbb, .d => .sbbD
  | .sbb, .e => .sbbE
  | .sbb, .h => .sbbH
  | .sbb, .l => .sbbL
  | .sbb, .a => .sbbA
  | .ana, .b => .anaB
  | .ana, .c => .anaC
  | .ana, .d => .anaD
  | .ana, .e => .anaE
  | .ana, .h => .anaH
  | .ana, .l => .anaL
  | .ana, .a => .anaA
  | .xra, .b => .xraB
  | .xra, .c => .xraC
  | .xra, .d => .xraD
  | .xra, .e => .xraE
  | .xra, .h => .xraH
  | .xra, .l => .xraL
  | .xra, .a => .xraA
  | .ora, .b => .oraB
  | .ora, .c => .oraC
  | .ora, .d => .oraD
  | .ora, .e => .oraE
  | .ora, .h => .oraH
  | .ora, .l => .oraL
  | .ora, .a => .oraA
  | .cmp, .b => .cmpB
  | .cmp, .c => .cmpC
  | .cmp, .d => .cmpD
  | .cmp, .e => .cmpE
  | .cmp, .h => .cmpH
  | .cmp, .l => .cmpL
  | .cmp, .a => .cmpA

/-- The eight operations with operand M. -/
def Instr.aluMem : AluOp → Instr
  | .add => .addM
  | .adc => .adcM
  | .sub => .subM
  | .sbb => .sbbM
  | .ana => .anaM
  | .xra => .xraM
  | .ora => .oraM
  | .cmp => .cmpM

/-- ADI, ACI, SUI, SBI, ANI, XRI, ORI, CPI. -/
def Instr.aluImm : AluOp → Byte → Instr
  | .add, d8 => .adi d8
  | .adc, d8 => .aci d8
  | .sub, d8 => .sui d8
  | .sbb, d8 => .sbi d8
  | .ana, d8 => .ani d8
  | .xra, d8 => .xri d8
  | .ora, d8 => .ori d8
  | .cmp, d8 => .cpi d8

/-- INR r (41_arithmetic R156). -/
def Instr.inr : Reg → Instr
  | .b => .inrB
  | .c => .inrC
  | .d => .inrD
  | .e => .inrE
  | .h => .inrH
  | .l => .inrL
  | .a => .inrA

/-- DCR r (41_arithmetic R158). -/
def Instr.dcr : Reg → Instr
  | .b => .dcrB
  | .c => .dcrC
  | .d => .dcrD
  | .e => .dcrE
  | .h => .dcrH
  | .l => .dcrL
  | .a => .dcrA

/-- INX rp (41_arithmetic R160). -/
def Instr.inx : Rp → Instr
  | .pair .bc => .inxB
  | .pair .de => .inxD
  | .pair .hl => .inxH
  | .sp => .inxSp

/-- DCX rp (41_arithmetic R161). -/
def Instr.dcx : Rp → Instr
  | .pair .bc => .dcxB
  | .pair .de => .dcxD
  | .pair .hl => .dcxH
  | .sp => .dcxSp

/-- DAD rp (41_arithmetic R162). -/
def Instr.dad : Rp → Instr
  | .pair .bc => .dadB
  | .pair .de => .dadD
  | .pair .hl => .dadH
  | .sp => .dadSp

/-- Jcc (43_branch R202). -/
def Instr.jcc : Cond → Word → Instr
  | .nz, addr => .jnz addr
  | .z, addr => .jz addr
  | .nc, addr => .jnc addr
  | .c, addr => .jc addr
  | .po, addr => .jpo addr
  | .pe, addr => .jpe addr
  | .p, addr => .jp addr
  | .m, addr => .jm addr

/-- Ccc (43_branch R204). -/
def Instr.ccc : Cond → Word → Instr
  | .nz, addr => .cnz addr
  | .z, addr => .cz addr
  | .nc, addr => .cnc addr
  | .c, addr => .cc addr
  | .po, addr => .cpo addr
  | .pe, addr => .cpe addr
  | .p, addr => .cp addr
  | .m, addr => .cm addr

/-- Rcc (43_branch R206). -/
def Instr.rcc : Cond → Instr
  | .nz => .rnz
  | .z => .rz
  | .nc => .rnc
  | .c => .rc
  | .po => .rpo
  | .pe => .rpe
  | .p => .rp
  | .m => .rm

/-- RST n (43_branch R207); `n` is the field `nnn`, bits 5:3 of the opcode. -/
def Instr.rst (n : BitVec 3) : Instr :=
  match n with
  | 0b000#3 => .rst0
  | 0b001#3 => .rst1
  | 0b010#3 => .rst2
  | 0b011#3 => .rst3
  | 0b100#3 => .rst4
  | 0b101#3 => .rst5
  | 0b110#3 => .rst6
  | _ => .rst7

/-- PUSH rp (44_stack R221). -/
def Instr.push : Pair → Instr
  | .bc => .pushB
  | .de => .pushD
  | .hl => .pushH

/-- POP rp (44_stack R223). -/
def Instr.pop : Pair → Instr
  | .bc => .popB
  | .de => .popD
  | .hl => .popH

/-- The row of an undefined opcode (60_exceptions R241). -/
def Instr.undef : UndefOp → Instr
  | .x08 => .undef08
  | .x10 => .undef10
  | .x18 => .undef18
  | .x20 => .undef20
  | .x28 => .undef28
  | .x30 => .undef30
  | .x38 => .undef38
  | .xCB => .undefCB
  | .xD9 => .undefD9
  | .xDD => .undefDD
  | .xED => .undefED
  | .xFD => .undefFD

/-- The byte of an undefined opcode. -/
def undefByte : UndefOp → Byte
  | .x08 => 0x08
  | .x10 => 0x10
  | .x18 => 0x18
  | .x20 => 0x20
  | .x28 => 0x28
  | .x30 => 0x30
  | .x38 => 0x38
  | .xCB => 0xCB
  | .xD9 => 0xD9
  | .xDD => 0xDD
  | .xED => 0xED
  | .xFD => 0xFD

/-- `UNDEF_OPCODES` (30_encoding R88, default D10). -/
def undefOpcodes : List Byte :=
  [0x08, 0x10, 0x18, 0x20, 0x28, 0x30, 0x38, 0xCB, 0xD9, 0xDD, 0xED, 0xFD]

end Sys2Proof
end

