-- ==== Sys2Proof/Safety.lean ====
section
/-! DEFINITION. What claims are stated with: frames (what is unchanged), how an instruction is encoded and what it
costs, the flags a result gives, what a run ends in, and the invariant every step keeps. -/

namespace Sys2Proof

open Sys2Proof.Machine

/-! ### Frames -/

/-- Every general register not in the list holds what it held. -/
def sameRegsExcept (rs : List Reg) (s t : State) : Prop := ∀ r, r ∉ rs → t.reg r = s.reg r

/-- Every byte of memory whose address is not in the list reads as it read. -/
def sameMemoryExcept (stored : List Word) (s t : State) : Prop := ∀ a, a ∉ stored → t.load a = s.load a

/-- INTE, RUN and the trap record are unchanged. -/
def sameControl (s t : State) : Prop :=
  t.inte = s.inte ∧ t.run = s.run ∧ t.trapOpcode = s.trapOpcode ∧ t.trapPc = s.trapPc

/-- All but the registers listed, the bytes listed, the flags, SP and PC is unchanged. -/
def changesOnly (rs : List Reg) (stored : List Word) (s t : State) : Prop :=
  sameRegsExcept rs s t ∧ sameMemoryExcept stored s t ∧ sameControl s t

/-- SP and PC are unchanged. -/
def samePointers (s t : State) : Prop := t.sp = s.sp ∧ t.pc = s.pc

/-! ### Encoding and cost -/

/-- The instruction is encoded as these bytes, and a byte string that begins with them decodes to it. -/
def encodedAs (i : Instr) (bytes : List Byte) : Prop :=
  encode i = bytes ∧ ∀ rest, decode (bytes ++ rest) = .ok (i, rest)

/-- The instruction takes `n` cycles, whatever its condition. -/
def costs (i : Instr) (n : Nat) : Prop := ∀ b, cycles i b = some n

/-! ### Flags of a result, written apart from the model's own flag functions -/

/-- The number of set bits among the eight is even, as the exclusive or of 41_arithmetic R140. -/
def evenParity (r : Byte) : Bool :=
  true ^^ r.getLsbD 7 ^^ r.getLsbD 6 ^^ r.getLsbD 5 ^^ r.getLsbD 4 ^^ r.getLsbD 3 ^^ r.getLsbD 2 ^^ r.getLsbD 1
    ^^ r.getLsbD 0

/-- Z, S and P are those of the byte `r` (10_state R27, 41_arithmetic R141). -/
def zspOf (r : Byte) (f : Flags) : Prop := f.z = decide (r = 0) ∧ f.s = r.getLsbD 7 ∧ f.p = evenParity r

/-! ### Groups of instructions -/

/-- An instruction of the register ALU or the immediate ALU with this operation, in any of its three forms. -/
def isAlu (op : AluOp) (i : Instr) : Prop :=
  (∃ r, i = Instr.aluReg op r) ∨ i = Instr.aluMem op ∨ ∃ d8, i = Instr.aluImm op d8

/-- ADD ADC SUB SBB CMP and their immediates: the five flags are written (10_state R28). -/
def writesFiveFlags (i : Instr) : Prop := isAlu .add i ∨ isAlu .adc i ∨ isAlu .sub i ∨ isAlu .sbb i ∨ isAlu .cmp i

/-- ANA XRA ORA and their immediates. -/
def isLogic (i : Instr) : Prop := isAlu .ana i ∨ isAlu .xra i ∨ isAlu .ora i

/-- INR and DCR, register and memory forms. -/
def isIncDec (i : Instr) : Prop := (∃ r, i = Instr.inr r ∨ i = Instr.dcr r) ∨ i = .inrM ∨ i = .dcrM

/-- DAD in its four forms, and the four rotates: CY is the only flag written. -/
def writesCarryOnly (i : Instr) : Prop :=
  (∃ rp, i = Instr.dad rp) ∨ i = .rlc ∨ i = .rrc ∨ i = .ral ∨ i = .rar

/-- The instructions that may redirect PC (10_state R26). -/
def redirects (i : Instr) : Prop :=
  (∃ addr, i = .jmp addr ∨ i = .call addr) ∨ (∃ cond addr, i = Instr.jcc cond addr ∨ i = Instr.ccc cond addr) ∨
  i = .ret ∨ (∃ cond, i = Instr.rcc cond) ∨ (∃ n, i = Instr.rst n) ∨ i = .pchl

/-- The instructions that write SP (10_state R24). -/
def writesSp (i : Instr) : Prop :=
  (∃ d16, i = .lxiSp d16) ∨ i = .inxSp ∨ i = .dcxSp ∨ i = .sphl ∨
  (∃ p, i = Instr.push p ∨ i = Instr.pop p) ∨ i = .pushPsw ∨ i = .popPsw ∨
  (∃ addr, i = .call addr) ∨ (∃ cond addr, i = Instr.ccc cond addr) ∨ i = .ret ∨ (∃ cond, i = Instr.rcc cond) ∨
  (∃ n, i = Instr.rst n)

/-- The instructions that store to memory (20_memory R55, the rows with a `w`). -/
def stores (i : Instr) : Prop :=
  (∃ r, i = Instr.movToM r) ∨ (∃ d8, i = .mviM d8) ∨ i = .inrM ∨ i = .dcrM ∨ (∃ addr, i = .sta addr) ∨
  (∃ addr, i = .shld addr) ∨ (∃ p, i = Instr.stax p) ∨ (∃ p, i = Instr.push p) ∨ i = .pushPsw ∨
  (∃ addr, i = .call addr) ∨ (∃ cond addr, i = Instr.ccc cond addr) ∨ (∃ n, i = Instr.rst n) ∨ i = .xthl

/-- One of the twelve undefined opcodes. -/
def isUndefined (i : Instr) : Prop := ∃ u, i = Instr.undef u

/-- The registers a pair-coded operand names: its two halves, or none for SP. -/
def rpRegs : Rp → List Reg
  | .pair p => [pairHi p, pairLo p]
  | .sp => []

/-! ### Runs (70_reset R277) -/

/-- `n` times the instruction `i`, stopping at the first answer that is no next state. -/
def repeatExec (i : Instr) : Nat → State → Host.Outcome State Fault Refusal
  | 0, s => .next s
  | n + 1, s =>
    match exec i s with
    | .next t => repeatExec i n t
    | .fault r => .fault r
    | .refused r => .refused r

/-- The state after `k` steps from `s` is `t`. -/
def reaches (k : Nat) (s t : State) : Prop := Host.Core.run core k s = Host.Outcome.next t

/-- The run reaches HALTED: the good end. -/
def endsHalted (s : State) : Prop := ∃ k t, reaches k s t ∧ t.run = .halted

/-- The run reaches TRAPPED: the fault. -/
def endsTrapped (s : State) : Prop := ∃ k t, reaches k s t ∧ t.run = .trapped

/-- The run goes on for ever: after every number of steps the core is RUNNING. -/
def neverEnds (s : State) : Prop := ∀ k, ∃ t, reaches k s t ∧ t.run = .running

/-- A safe run never traps (60_exceptions R252: a claim should take this as something to prove). -/
def safeRun (s : State) : Prop := ∀ k t, reaches k s t → t.run ≠ .trapped

/-! ### The invariant -/

/-- Memory has its canonical form; a HALTED core stands just after the byte of HLT (60_exceptions R244); a TRAPPED
core stands just after the undefined byte its trap record names (R241, R243). -/
def Inv (s : State) : Prop :=
  memWf s.mem = true ∧
  (s.run = .halted → s.load (s.pc - 1) = 0x76) ∧
  (s.run = .trapped → s.load s.trapPc = s.trapOpcode ∧ s.trapOpcode ∈ undefOpcodes ∧ s.pc = s.trapPc + 1)

end Sys2Proof
end

