-- ==== Sys2Proof/Certificates/Slice0/Obligations.lean ====
section
/-! DEFINITION. The statements for the provers, from the numbered rules of spec/. `exec i s` is the instruction's rule
in the state after the fetch: `s.pc` is `pcn`, the address after the instruction (00_scope R13). `changesOnly rs as s t` says
that every register outside `rs`, every byte of memory outside `as`, INTE, RUN and the trap record are unchanged. -/

open Sys2Proof Sys2Proof.Machine

/-! ### Shapes shared by the statements below -/

namespace Sys2Proof.Shape

/-- The three forms of an operation of the ALU (register, M, immediate): their encodings (30_encoding R82, R85), their
cycles, and that each completes with `result operand before after`. -/
def aluForms (op : AluOp) (result : Byte → State → State → Prop) : Prop :=
  ∀ s : State,
    (∀ r : Reg, encodedAs (Instr.aluReg op r) [0b10#2 ++ aluCode op ++ regCode r] ∧ costs (Instr.aluReg op r) 4 ∧
      ∃ t, exec (Instr.aluReg op r) s = .next t ∧ result (s.reg r) s t) ∧
    (encodedAs (Instr.aluMem op) [0b10#2 ++ aluCode op ++ memCode] ∧ costs (Instr.aluMem op) 7 ∧
      ∃ t, exec (Instr.aluMem op) s = .next t ∧ result (s.load s.hl) s t) ∧
    (∀ d8 : Byte, encodedAs (Instr.aluImm op d8) [0b11#2 ++ aluCode op ++ 0b110#3, d8] ∧
      costs (Instr.aluImm op d8) 7 ∧ ∃ t, exec (Instr.aluImm op d8) s = .next t ∧ result d8 s t)

/-- A <- a + v + cin modulo 256; CY is the carry out of bit 7, AC the carry out of bit 3, Z S P those of the result. -/
def adds (cin : Bool) (v : Byte) (s t : State) : Prop :=
  t.reg .a = BitVec.ofNat 8 ((s.reg .a).toNat + v.toNat + cin.toNat) ∧
  t.flags.cy = decide (256 ≤ (s.reg .a).toNat + v.toNat + cin.toNat) ∧
  t.flags.ac = decide (16 ≤ (s.reg .a).toNat % 16 + v.toNat % 16 + cin.toNat) ∧
  zspOf (t.reg .a) t.flags ∧ changesOnly [.a] [] s t ∧ samePointers s t

/-- The flags of a - v - bin: CY is the borrow (a < v + bin, computed without wrap-around), AC is 1 when there is NO
borrow out of the low nibble, Z S P those of the difference modulo 256. -/
def differenceFlags (bin : Bool) (a v : Byte) (f : Flags) : Prop :=
  f.cy = decide (a.toNat < v.toNat + bin.toNat) ∧
  f.ac = decide (v.toNat % 16 + bin.toNat ≤ a.toNat % 16) ∧
  zspOf (a - v - BitVec.ofNat 8 bin.toNat) f

/-- A <- a - v - bin modulo 256, with the flags of the difference. -/
def subtracts (bin : Bool) (v : Byte) (s t : State) : Prop :=
  t.reg .a = s.reg .a - v - BitVec.ofNat 8 bin.toNat ∧ differenceFlags bin (s.reg .a) v t.flags ∧
  changesOnly [.a] [] s t ∧ samePointers s t

/-- The flags of a - v; A and everything else unchanged. -/
def compares (v : Byte) (s t : State) : Prop :=
  differenceFlags false (s.reg .a) v t.flags ∧ changesOnly [] [] s t ∧ samePointers s t

/-- A <- op(a, v); CY and AC cleared; Z S P those of the result. -/
def combines (op : Byte → Byte → Byte) (v : Byte) (s t : State) : Prop :=
  t.reg .a = op (s.reg .a) v ∧ t.flags.cy = false ∧ t.flags.ac = false ∧ zspOf (t.reg .a) t.flags ∧
  changesOnly [.a] [] s t ∧ samePointers s t

/-- A one-byte rotate of 4 cycles: A <- r, CY <- cy, the other flags and all else unchanged. -/
def rotates (i : Instr) (opcode : Byte) (r : Byte → Bool → Byte) (cy : Byte → Bool) : Prop :=
  encodedAs i [opcode] ∧ costs i 4 ∧ ∀ s : State, ∃ t, exec i s = .next t ∧
    t.reg .a = r (s.reg .a) s.flags.cy ∧ t.flags = { s.flags with cy := cy (s.reg .a) } ∧
    changesOnly [.a] [] s t ∧ samePointers s t

/-- `push16(v); pc <- target`, with nothing else changed: the high byte of `v` at SP-1, the low byte at SP-2. -/
def pushesAndJumps (v target : Word) (s t : State) : Prop :=
  t.load (s.sp - 1) = hiByte v ∧ t.load (s.sp - 2) = loByte v ∧ t.sp = s.sp - 2 ∧ t.pc = target ∧
  changesOnly [] [s.sp - 1, s.sp - 2] s t ∧ t.flags = s.flags

/-- `pc <- pop16()`, with nothing else changed. -/
def returns (s t : State) : Prop :=
  t.pc = joinBytes (s.load (s.sp + 1)) (s.load s.sp) ∧ t.sp = s.sp + 2 ∧ changesOnly [] [] s t ∧ t.flags = s.flags

end Sys2Proof.Shape

open Sys2Proof.Shape

/-! ### Reset, boot, and the step -/

/-- The reset table of 10_state section 5: every register, flag, SP, PC and INTE is zero after construction, RUN is RUNNING
(the spec's own inference: "[derived: a created core has met no HLT and no trap]"), every byte of memory is 0x00 (which
decodes as NOP). The trap record, which the spec leaves unspecified (log entry 1), is not in it. -/
def Obligations.ResetIsAllZero : Prop :=
  (∀ r, State.reset.reg r = 0) ∧ State.reset.sp = 0 ∧ State.reset.pc = 0 ∧
  State.reset.flags = ⟨false, false, false, false, false⟩ ∧ State.reset.inte = false ∧ State.reset.run = .running ∧
  (∀ a, State.reset.load a = 0) ∧ ∀ a b2 b3, decodeBytes (State.reset.load a) b2 b3 = .nop

/-- The invariant of `StepKeepsInv` holds after reset. -/
def Obligations.InvAtReset : Prop := Inv State.reset

/-- R272, R67: boot writes the image at the load offset over zeros and leaves the rest of the reset state (PC stays 0);
an image that runs past 0xFFFF is refused. -/
def Obligations.BootPlacesImage : Prop :=
  ∀ l : Launch,
    (l.offset + l.image.length ≤ 65536 → ∃ t, boot l = some t ∧ { t with mem := [] } = State.reset ∧ t.pc = 0 ∧
      (∀ (i : Nat) (h : i < l.image.length), t.load (BitVec.ofNat 16 (l.offset + i)) = l.image[i]) ∧
      ∀ a : Word, (a.toNat < l.offset ∨ l.offset + l.image.length ≤ a.toNat) → t.load a = 0) ∧
    (65536 < l.offset + l.image.length → boot l = none)

/-- A step runs the decoded instruction: the bytes at PC always decode; when they decode to `i` and the core is
RUNNING, the step is `exec i` with PC advanced by the length of `i` (R90, R13), and `i` is well-formed. -/
def Obligations.StepRunsDecoded : Prop :=
  (∀ s : State, ∃ i rest, decode (fetchBytes s) = .ok (i, rest)) ∧
  ∀ (s : State) (i : Instr) (rest : List Byte), decode (fetchBytes s) = .ok (i, rest) →
    i.wellFormed = true ∧
    (s.run = .running → step s = exec i (s.setPc (s.pc + BitVec.ofNat 16 i.length)))

/-- The host's placing of a row: the next step decodes exactly what `decodeTableWord` decodes, and runs it. -/
def Obligations.PlacedWordRuns : Prop :=
  ∀ (s : State) (nbits w : Nat), ∃ i, decodeTableWord nbits w = some i ∧
    step (s.withFetchWord nbits w)
      = exec i ((s.withFetchWord nbits w).setPc (s.pc + BitVec.ofNat 16 i.length))

/-- R61, R255: no step and no instruction answers a fault or a refusal; AddressOutOfRange is unreachable. -/
def Obligations.NothingFaults : Prop :=
  (∀ (i : Instr) (s : State), ∃ t, exec i s = .next t) ∧ ∀ s : State, ∃ t, step s = .next t

/-- R252: a HALTED or TRAPPED core has no transition: one step and any number of steps answer the unchanged state, and
the outcome is the same terminal outcome. -/
def Obligations.TerminalStatesAbsorb : Prop :=
  ∀ s : State, s.run ≠ .running →
    step s = .next s ∧ (∀ k, reaches k s s) ∧
    (s.run = .halted → ∃ n, coreStep s = .halted s n) ∧
    (s.run = .trapped → coreStep s = .trap s s.trapOpcode s.trapPc)

/-- The outcomes of 00_scope R9: in a RUNNING core the outcome is Trap for an undefined opcode (with the byte and the address it was fetched
from), Halted with 7 cycles for HLT, and Ok with the instruction's cycles for everything else. -/
def Obligations.OutcomeOfAStep : Prop :=
  ∀ s : State, s.run = .running → ∃ t, step s = .next t ∧
    (∀ u, fetchInstr s = Instr.undef u → coreStep s = .trap t (undefByte u) s.pc ∧ undefByte u = s.load s.pc) ∧
    (fetchInstr s = .hlt → coreStep s = .halted t 7) ∧
    (fetchInstr s ≠ .hlt → ¬ isUndefined (fetchInstr s) → t.run = .running ∧
      ∃ n, coreStep s = .ok t n ∧ cycles (fetchInstr s) (taken (fetchInstr s) s.flags) = some n)

/-- Every step keeps the invariant: memory stays canonical, a HALTED core stands after an HLT byte, a TRAPPED core stands
after the undefined byte its trap record names (R241, R243, R244). -/
def Obligations.StepKeepsInv : Prop := ∀ s t : State, Inv s → step s = .next t → Inv t

/-- The ends of a run (70_reset section 5): from every state it ends halted, ends trapped, or never ends, and only one of
the three; a run is safe exactly when it does not end trapped. -/
def Obligations.RunEndsInOneWay : Prop :=
  ∀ s : State,
    (endsHalted s ∨ endsTrapped s ∨ neverEnds s) ∧ ¬ (endsHalted s ∧ endsTrapped s) ∧
    ¬ (endsHalted s ∧ neverEnds s) ∧ ¬ (endsTrapped s ∧ neverEnds s) ∧ (safeRun s ↔ ¬ endsTrapped s)

/-- Fetch coherence (20_memory section 5): a byte stored by STA is seen by the very next fetch, whatever it overwrites, the
next opcode included. -/
def Obligations.StoreSeenByNextFetch : Prop :=
  ∀ (s : State) (addr : Word), s.run = .running → fetchInstr s = .sta addr →
    ∃ t, step s = .next t ∧ t.pc = s.pc + 3 ∧
      fetchBytes t = [t.pc, t.pc + 1, t.pc + 2].map (fun a => if a = addr then s.reg .a else s.load a)

/-! ### Encoding -/

/-- Decoding the encoding of ANY instruction, with any bytes after it, gives the instruction back with every operand;
every instruction is well-formed. -/
def Obligations.DecodeOfEncode : Prop :=
  ∀ (i : Instr) (rest : List Byte), i.wellFormed = true ∧ decode (encode i ++ rest) = .ok (i, rest)

/-- The other direction: a byte string decodes to `i` only if it begins with the encoding of `i`, so no two encodings have
one meaning. -/
def Obligations.EncodeOfDecode : Prop :=
  ∀ (bytes : List Byte) (i : Instr) (rest : List Byte), decode bytes = .ok (i, rest) → bytes = encode i ++ rest

/-- R94, R80: the length function, and that decoding takes exactly that many bytes and refuses a string that is shorter. -/
def Obligations.LengthOfOpcode : Prop :=
  (∀ op : Byte, opcodeLength op =
    if op ∈ ([0x01, 0x11, 0x21, 0x31, 0x22, 0x2A, 0x32, 0x3A, 0xC2, 0xCA, 0xD2, 0xDA, 0xE2, 0xEA, 0xF2, 0xFA, 0xC3, 0xC4,
      0xCC, 0xD4, 0xDC, 0xE4, 0xEC, 0xF4, 0xFC, 0xCD] : List Byte) then 3
    else if op ∈ ([0x06, 0x0E, 0x16, 0x1E, 0x26, 0x2E, 0x36, 0x3E, 0xC6, 0xCE, 0xD6, 0xDE, 0xE6, 0xEE, 0xF6, 0xFE, 0xD3,
      0xDB] : List Byte) then 2
    else 1) ∧
  ∀ (op : Byte) (rest : List Byte),
    (opcodeLength op ≤ rest.length + 1 → ∃ i, decode (op :: rest) = .ok (i, rest.drop (opcodeLength op - 1))) ∧
    (rest.length + 1 < opcodeLength op → decode (op :: rest) = .error (.missingOperand op))

/-- The codes of the fields inside the opcode byte: register codes, pair codes, condition codes, ALU codes (30_encoding
R82 to R85). The statements on encodings below are written with them. -/
def Obligations.FieldCodes : Prop :=
  [Reg.b, .c, .d, .e, .h, .l, .a].map regCode = [0b000, 0b001, 0b010, 0b011, 0b100, 0b101, 0b111] ∧ memCode = 0b110 ∧
  [Rp.pair .bc, .pair .de, .pair .hl, .sp].map rpCode = [0b00, 0b01, 0b10, 0b11] ∧
  [Pair.bc, .de, .hl].map pairCode = [0b00, 0b01, 0b10] ∧ [AddrPair.bc, .de].map addrPairCode = [0b0, 0b1] ∧
  [Cond.nz, .z, .nc, .c, .po, .pe, .p, .m].map condCode
    = [0b000, 0b001, 0b010, 0b011, 0b100, 0b101, 0b110, 0b111] ∧
  [AluOp.add, .adc, .sub, .sbb, .ana, .xra, .ora, .cmp].map aluCode
    = [0b000, 0b001, 0b010, 0b011, 0b100, 0b101, 0b110, 0b111]

/-- A few words written out from the encodings of the spec decode to what they stand for. -/
def Obligations.SampleWordsDecode : Prop :=
  decode [0b01000011] = .ok (.movBE, []) ∧ decode [0xC3, 0x00, 0x10] = .ok (.jmp 0x1000, []) ∧
  decode [0b00100001, 0x34, 0x12] = .ok (.lxiH 0x1234, []) ∧ decode [0b10011101] = .ok (.sbbL, []) ∧
  decode [0b11111110, 0x40] = .ok (.cpi 0x40, []) ∧ decode [0b11110101] = .ok (.pushPsw, []) ∧
  decode [0b11010111] = .ok (.rst2, []) ∧ decode [0b01110110] = .ok (.hlt, []) ∧ decode [0xED] = .ok (.undefED, [])

/-- R88, R241, R242, R243: in a RUNNING core the twelve bytes, and no others, raise UnimplementedOpcode(opcode, pc0): the
outcome is Trap, the trap record holds the byte and its address, RUN is TRAPPED, PC is pc0 + 1 whatever follows the byte, and no register, flag,
SP, INTE or byte of memory changes. -/
def Obligations.UndefinedOpcodesTrap : Prop :=
  ∀ s : State, s.run = .running → ∃ t, step s = .next t ∧
    (s.load s.pc ∈ ([0x08, 0x10, 0x18, 0x20, 0x28, 0x30, 0x38, 0xCB, 0xD9, 0xDD, 0xED, 0xFD] : List Byte) →
      coreStep s = .trap t (s.load s.pc) s.pc ∧
      t.run = .trapped ∧ t.trapOpcode = s.load s.pc ∧ t.trapPc = s.pc ∧ t.pc = s.pc + 1 ∧
      (∀ r, t.reg r = s.reg r) ∧ t.flags = s.flags ∧ t.sp = s.sp ∧ t.inte = s.inte ∧ ∀ a, t.load a = s.load a) ∧
    (s.load s.pc ∉ ([0x08, 0x10, 0x18, 0x20, 0x28, 0x30, 0x38, 0xCB, 0xD9, 0xDD, 0xED, 0xFD] : List Byte) →
      t.run ≠ .trapped ∧ t.trapOpcode = s.trapOpcode ∧ t.trapPc = s.trapPc)

/-! ### The flag functions, the flag byte, memory words, the stack -/

/-- R140, R141, R142: parity counts set bits (equal to the exclusive or), flagsZSP and flagsLogic. -/
def Obligations.FlagFunctions : Prop :=
  (∀ (n w : Nat), parity n w = decide ((((List.range w).filter (fun k => n.testBit k)).length) % 2 = 0)) ∧
  (∀ v : Byte, parity8 v = evenParity v) ∧
  (∀ (r : Byte) (f : Flags), zspOf r (flagsZSP r f) ∧ (flagsZSP r f).cy = f.cy ∧ (flagsZSP r f).ac = f.ac) ∧
  ∀ (r : Byte) (f : Flags), zspOf r (flagsLogic r f) ∧ (flagsLogic r f).cy = false ∧ (flagsLogic r f).ac = false

/-- flagsArith (41_arithmetic section 1): CY is whether the 16-bit intermediate is above 0xFF, Z S P those of its low byte, AC
untouched; and what the spec infers of it ("[derived: from the two quoted definitions; ...]"): that carry is the carry of
an addition and the borrow of a subtraction modulo 65536. -/
def Obligations.FlagsOfTheIntermediate : Prop :=
  (∀ (t : Word) (f : Flags), zspOf (BitVec.ofNat 8 t.toNat) (flagsArith t f) ∧
    (flagsArith t f).cy = decide (0xFF < t.toNat) ∧ (flagsArith t f).ac = f.ac) ∧
  ∀ (a v : Byte) (c : Bool) (f : Flags),
    (flagsArith (BitVec.ofNat 16 (a.toNat + v.toNat + c.toNat)) f).cy = decide (256 ≤ a.toNat + v.toNat + c.toNat) ∧
    (flagsArith (BitVec.ofNat 16 (65536 + a.toNat - v.toNat - c.toNat)) f).cy = decide (a.toNat < v.toNat + c.toNat)

/-- The two formulas of the auxiliary carry (41_arithmetic section 1): AC_ADD is the carry out of bit 3 of a + v + cin, AC_SUB that of a + ~v + (1 - bin), which is 1 when
there is no borrow out of the low nibble; and that AC is read only by DAA and PUSH PSW: a
state that differs in AC alone is carried by every other instruction to one that differs at most in AC. -/
def Obligations.AuxiliaryCarry : Prop :=
  (∀ (a v : Byte) (c : Bool),
    acAdd a v c = decide (0xF < a.toNat % 16 + v.toNat % 16 + c.toNat) ∧
    acSub a v c = decide (0xF < a.toNat % 16 + (255 - v.toNat) % 16 + (1 - c.toNat)) ∧
    acSub a v c = decide (v.toNat % 16 + c.toNat ≤ a.toNat % 16)) ∧
  ∀ (i : Instr) (s : State) (b : Bool), i ≠ .daa → i ≠ .pushPsw →
    ∃ t t', exec i s = .next t ∧ exec i (s.setFlags { s.flags with ac := b }) = .next t' ∧
      t' = t.setFlags { t.flags with ac := t'.flags.ac }

/-- The layout of the flag byte (10_state section 3): pack and unpack bit by bit, and, as the spec infers "[derived: from
the two definitions]", that each undoes the other, bits 7:5 apart. -/
def Obligations.FlagByteLayout : Prop :=
  (∀ f : Flags, (packFlags f).toNat = f.z.toNat + 2 * f.s.toNat + 4 * f.p.toNat + 8 * f.cy.toNat + 16 * f.ac.toNat) ∧
  (∀ f : Flags, unpackFlags (packFlags f) = f) ∧ (∀ b : Byte, packFlags (unpackFlags b) = b &&& 0x1F) ∧
  ∀ b : Byte, unpackFlags b = ⟨b.getLsbD 0, b.getLsbD 1, b.getLsbD 2, b.getLsbD 3, b.getLsbD 4⟩

/-- R52: a byte read returns the last byte written there, and 0x00 after reset; a byte write changes that byte and nothing
else. -/
def Obligations.BytesReadBack : Prop :=
  (∀ a, State.reset.load a = 0x00) ∧
  ∀ (s : State) (a : Word) (v : Byte),
    (s.store a v).load a = v ∧ (∀ x, x ≠ a → (s.store a v).load x = s.load x) ∧ { s.store a v with mem := s.mem } = s

/-- Words in memory (20_memory section 2; the wrap at 0xFFFF is the spec's inference "[derived: from rule R52, every address
is masked]"): a word is two byte accesses, low byte at `addr`, high byte at `addr + 1` modulo 65536; what is written is
read back; each half is the byte there; no other byte and no register changes. -/
def Obligations.WordsAreLittleEndian : Prop :=
  ∀ (s : State) (a v : Word),
    s.load16 a = joinBytes (s.load (a + 1)) (s.load a) ∧
    (s.store16 a v).load16 a = v ∧ (s.store16 a v).load a = loByte v ∧ (s.store16 a v).load (a + 1) = hiByte v ∧
    (∀ x, x ≠ a → x ≠ a + 1 → (s.store16 a v).load x = s.load x) ∧ { s.store16 a v with mem := s.mem } = s ∧
    (s.store16 0xFFFF v).load 0x0000 = hiByte v

/-- The stack primitives (44_stack section 1; that the round trip holds for every SP is the spec's inference "[derived: `pop16`
reads exactly the two bytes `push16` wrote; ...]"): push16 writes the high byte at SP-1 and the low byte at SP-2 and lowers SP by 2; pop16 reads them and raises it;
the push equals a little-endian word write at SP-2; the round trip holds for every SP, and a pop erases nothing. -/
def Obligations.StackRoundTrip : Prop :=
  ∀ (s : State) (v : Word),
    (s.push16 v).load (s.sp - 1) = hiByte v ∧ (s.push16 v).load (s.sp - 2) = loByte v ∧ (s.push16 v).sp = s.sp - 2 ∧
    (∀ x, x ≠ s.sp - 1 → x ≠ s.sp - 2 → (s.push16 v).load x = s.load x) ∧
    (∀ x, (s.push16 v).load x = ((s.store16 (s.sp - 2) v).setSp (s.sp - 2)).load x) ∧
    s.topWord = joinBytes (s.load (s.sp + 1)) (s.load s.sp) ∧ s.popped.sp = s.sp + 2 ∧
    (∀ x, s.popped.load x = s.load x) ∧
    (s.push16 v).topWord = v ∧ (s.push16 v).popped.sp = s.sp

/-! ### Data transfer -/

/-- R110: MOV r1,r2 copies r2 into r1 and changes nothing else. -/
def Obligations.MovCopiesRegister : Prop :=
  ∀ (r1 r2 : Reg) (s : State),
    encodedAs (Instr.mov r1 r2) [0b01#2 ++ regCode r1 ++ regCode r2] ∧ costs (Instr.mov r1 r2) 5 ∧
    ∃ t, exec (Instr.mov r1 r2) s = .next t ∧ t.reg r1 = s.reg r2 ∧ changesOnly [r1] [] s t ∧ t.flags = s.flags ∧
      samePointers s t

/-- R111: MOV r,M loads the byte at HL as HL was before the write. -/
def Obligations.MovLoadsFromHl : Prop :=
  ∀ (r : Reg) (s : State),
    encodedAs (Instr.movFromM r) [0b01#2 ++ regCode r ++ memCode] ∧ costs (Instr.movFromM r) 7 ∧
    ∃ t, exec (Instr.movFromM r) s = .next t ∧ t.reg r = s.load s.hl ∧ changesOnly [r] [] s t ∧ t.flags = s.flags ∧
      samePointers s t

/-- R112, R114: MOV M,r and MVI M,d8 store one byte at HL. -/
def Obligations.StoresAtHl : Prop :=
  (∀ (r : Reg) (s : State),
    encodedAs (Instr.movToM r) [0b01#2 ++ memCode ++ regCode r] ∧ costs (Instr.movToM r) 7 ∧
    ∃ t, exec (Instr.movToM r) s = .next t ∧ t.load s.hl = s.reg r ∧ changesOnly [] [s.hl] s t ∧ t.flags = s.flags ∧
      samePointers s t) ∧
  ∀ (d8 : Byte) (s : State),
    encodedAs (.mviM d8) [0b00110110, d8] ∧ costs (.mviM d8) 10 ∧
    ∃ t, exec (.mviM d8) s = .next t ∧ t.load s.hl = d8 ∧ changesOnly [] [s.hl] s t ∧ t.flags = s.flags ∧ samePointers s t

/-- R113, R115: MVI r,d8 and LXI rp,d16: byte 2 to the low half, byte 3 to the high half, or the word to SP. -/
def Obligations.ImmediateLoads : Prop :=
  (∀ (r : Reg) (d8 : Byte) (s : State),
    encodedAs (Instr.mvi r d8) [0b00#2 ++ regCode r ++ 0b110#3, d8] ∧ costs (Instr.mvi r d8) 7 ∧
    ∃ t, exec (Instr.mvi r d8) s = .next t ∧ t.reg r = d8 ∧ changesOnly [r] [] s t ∧ t.flags = s.flags ∧ samePointers s t) ∧
  (∀ (rp : Rp) (d16 : Word),
    encodedAs (Instr.lxi rp d16) [0b00#2 ++ rpCode rp ++ 0b0001#4, loByte d16, hiByte d16] ∧ costs (Instr.lxi rp d16) 10) ∧
  (∀ (p : Pair) (d16 : Word) (s : State),
    ∃ t, exec (Instr.lxi (.pair p) d16) s = .next t ∧ t.reg (pairHi p) = hiByte d16 ∧ t.reg (pairLo p) = loByte d16 ∧
      changesOnly [pairHi p, pairLo p] [] s t ∧ t.flags = s.flags ∧ samePointers s t) ∧
  ∀ (d16 : Word) (s : State),
    ∃ t, exec (Instr.lxi .sp d16) s = .next t ∧ t.sp = d16 ∧ changesOnly [] [] s t ∧ t.flags = s.flags ∧ t.pc = s.pc

/-- R116, R117, R120, R121: LDA, STA, LDAX, STAX move A from and to the byte at the address. -/
def Obligations.AccumulatorLoadsAndStores : Prop :=
  ∀ (addr : Word) (p : AddrPair) (s : State),
    (encodedAs (.lda addr) [0b00111010, loByte addr, hiByte addr] ∧ costs (.lda addr) 13 ∧
      ∃ t, exec (.lda addr) s = .next t ∧ t.reg .a = s.load addr ∧ changesOnly [.a] [] s t ∧ t.flags = s.flags ∧
        samePointers s t) ∧
    (encodedAs (.sta addr) [0b00110010, loByte addr, hiByte addr] ∧ costs (.sta addr) 13 ∧
      ∃ t, exec (.sta addr) s = .next t ∧ t.load addr = s.reg .a ∧ changesOnly [] [addr] s t ∧ t.flags = s.flags ∧
        samePointers s t) ∧
    (encodedAs (Instr.ldax p) [0b000#3 ++ addrPairCode p ++ 0b1010#4] ∧ costs (Instr.ldax p) 7 ∧
      ∃ t, exec (Instr.ldax p) s = .next t ∧ t.reg .a = s.load (s.pair (addrPair p)) ∧ changesOnly [.a] [] s t ∧
        t.flags = s.flags ∧ samePointers s t) ∧
    (encodedAs (Instr.stax p) [0b000#3 ++ addrPairCode p ++ 0b0010#4] ∧ costs (Instr.stax p) 7 ∧
      ∃ t, exec (Instr.stax p) s = .next t ∧ t.load (s.pair (addrPair p)) = s.reg .a ∧
        changesOnly [] [s.pair (addrPair p)] s t ∧ t.flags = s.flags ∧ samePointers s t) ∧
    addrPair .bc = .bc ∧ addrPair .de = .de

/-- R118, R119: LHLD and SHLD: L with the byte at `addr`, H with the byte at `addr + 1` modulo 65536. -/
def Obligations.HlLoadsAndStores : Prop :=
  ∀ (addr : Word) (s : State),
    (encodedAs (.lhld addr) [0b00101010, loByte addr, hiByte addr] ∧ costs (.lhld addr) 16 ∧
      ∃ t, exec (.lhld addr) s = .next t ∧ t.reg .l = s.load addr ∧ t.reg .h = s.load (addr + 1) ∧ t.hl = s.load16 addr ∧
        changesOnly [.l, .h] [] s t ∧ t.flags = s.flags ∧ samePointers s t) ∧
    (encodedAs (.shld addr) [0b00100010, loByte addr, hiByte addr] ∧ costs (.shld addr) 16 ∧
      ∃ t, exec (.shld addr) s = .next t ∧ t.load addr = s.reg .l ∧ t.load (addr + 1) = s.reg .h ∧
        changesOnly [] [addr, addr + 1] s t ∧ t.flags = s.flags ∧ samePointers s t)

/-- R122: XCHG swaps DE and HL; two in a row restore both. -/
def Obligations.XchgSwapsPairs : Prop :=
  encodedAs .xchg [0b11101011] ∧ costs .xchg 4 ∧
  ∀ s : State, ∃ t, exec .xchg s = .next t ∧ t.pair .hl = s.pair .de ∧ t.pair .de = s.pair .hl ∧
    t.reg .h = s.reg .d ∧ t.reg .l = s.reg .e ∧ t.reg .d = s.reg .h ∧ t.reg .e = s.reg .l ∧
    changesOnly [.d, .e, .h, .l] [] s t ∧ t.flags = s.flags ∧ samePointers s t ∧ exec .xchg t = .next s

/-! ### Arithmetic -/

/-- R144 to R149: ADD, ADI (no carry in) and ADC, ACI (CY read before it is written), register, M and immediate forms. -/
def Obligations.AdditionsAdd : Prop :=
  aluForms .add (fun v s t => adds false v s t) ∧ aluForms .adc (fun v s t => adds s.flags.cy v s t)

/-- R150 to R155: SUB, SUI (no borrow in) and SBB, SBI (CY read before it is written). -/
def Obligations.SubtractionsSubtract : Prop :=
  aluForms .sub (fun v s t => subtracts false v s t) ∧ aluForms .sbb (fun v s t => subtracts s.flags.cy v s t)

/-- R156, R157: INR r and INR M add 1 modulo 256 and write Z, S, P; CY and AC stay. -/
def Obligations.InrIncrements : Prop :=
  (∀ (r : Reg) (s : State),
    encodedAs (Instr.inr r) [0b00#2 ++ regCode r ++ 0b100#3] ∧ costs (Instr.inr r) 5 ∧
    ∃ t, exec (Instr.inr r) s = .next t ∧ t.reg r = s.reg r + 1 ∧ zspOf (s.reg r + 1) t.flags ∧
      t.flags.cy = s.flags.cy ∧ t.flags.ac = s.flags.ac ∧ changesOnly [r] [] s t ∧ samePointers s t) ∧
  encodedAs .inrM [0b00110100] ∧ costs .inrM 10 ∧
  ∀ s : State, ∃ t, exec .inrM s = .next t ∧ t.load s.hl = s.load s.hl + 1 ∧ zspOf (s.load s.hl + 1) t.flags ∧
    t.flags.cy = s.flags.cy ∧ t.flags.ac = s.flags.ac ∧ changesOnly [] [s.hl] s t ∧ samePointers s t

/-- R158, R159: DCR r and DCR M subtract 1 modulo 256 and write Z, S, P; CY and AC stay. -/
def Obligations.DcrDecrements : Prop :=
  (∀ (r : Reg) (s : State),
    encodedAs (Instr.dcr r) [0b00#2 ++ regCode r ++ 0b101#3] ∧ costs (Instr.dcr r) 5 ∧
    ∃ t, exec (Instr.dcr r) s = .next t ∧ t.reg r = s.reg r - 1 ∧ zspOf (s.reg r - 1) t.flags ∧
      t.flags.cy = s.flags.cy ∧ t.flags.ac = s.flags.ac ∧ changesOnly [r] [] s t ∧ samePointers s t) ∧
  encodedAs .dcrM [0b00110101] ∧ costs .dcrM 10 ∧
  ∀ s : State, ∃ t, exec .dcrM s = .next t ∧ t.load s.hl = s.load s.hl - 1 ∧ zspOf (s.load s.hl - 1) t.flags ∧
    t.flags.cy = s.flags.cy ∧ t.flags.ac = s.flags.ac ∧ changesOnly [] [s.hl] s t ∧ samePointers s t

/-- INX and DCX, written in two steps in the model, add and subtract 1 modulo 65536, for every pair and SP, and write no
flag. That the two-step INX equals the addition is the spec's inference "[derived: the low byte wraps exactly when a carry
enters the high byte]" (41_arithmetic section 4). -/
def Obligations.PairsCountModulo65536 : Prop :=
  ∀ (rp : Rp) (s : State),
    (encodedAs (Instr.inx rp) [0b00#2 ++ rpCode rp ++ 0b0011#4] ∧ costs (Instr.inx rp) 5 ∧
      ∃ t, exec (Instr.inx rp) s = .next t ∧ t.rp rp = s.rp rp + 1 ∧ changesOnly (rpRegs rp) [] s t ∧
        t.flags = s.flags ∧ t.pc = s.pc ∧ (rp ≠ .sp → t.sp = s.sp)) ∧
    (encodedAs (Instr.dcx rp) [0b00#2 ++ rpCode rp ++ 0b1011#4] ∧ costs (Instr.dcx rp) 5 ∧
      ∃ t, exec (Instr.dcx rp) s = .next t ∧ t.rp rp = s.rp rp - 1 ∧ changesOnly (rpRegs rp) [] s t ∧
        t.flags = s.flags ∧ t.pc = s.pc ∧ (rp ≠ .sp → t.sp = s.sp))

/-- DAD adds the pair or SP to HL in 16 bits; CY is the carry out of bit 15, written every time; no other flag. That AC stays
is the spec's inference "[derived: from `10_state.md` rule R28, AC is not documented for DAD]" (41_arithmetic section 4). -/
def Obligations.DadAddsToHl : Prop :=
  ∀ (rp : Rp) (s : State),
    encodedAs (Instr.dad rp) [0b00#2 ++ rpCode rp ++ 0b1001#4] ∧ costs (Instr.dad rp) 10 ∧
    ∃ t, exec (Instr.dad rp) s = .next t ∧ t.hl = s.hl + s.rp rp ∧
      t.flags = { s.flags with cy := decide (65536 ≤ s.hl.toNat + (s.rp rp).toNat) } ∧
      changesOnly [.h, .l] [] s t ∧ samePointers s t

/-- R163: DAA as its two steps in 9-bit arithmetic: add 6 when the low nibble is above 9 or AC is set; then add 0x60 when
the high part is above 9 or CY is set. AC is the carry out of bit 3 of the adjustment; CY is set by the second step and
never cleared. -/
def Obligations.DaaAdjusts : Prop :=
  encodedAs .daa [0b00100111] ∧ costs .daa 4 ∧
  ∀ s : State, ∃ t, exec .daa s = .next t ∧
    (let a := (s.reg .a).toNat
     let step1 : Bool := s.flags.ac || decide (9 < a % 16)
     let a1 := if step1 then a + 6 else a
     let step2 : Bool := s.flags.cy || decide (9 < a1 / 16)
     let a2 := if step2 then a1 + 0x60 else a1
     t.reg .a = BitVec.ofNat 8 a2 ∧ t.flags.cy = step2 ∧ t.flags.ac = (step1 && decide (16 ≤ a % 16 + 6))) ∧
    zspOf (t.reg .a) t.flags ∧ changesOnly [.a] [] s t ∧ samePointers s t

/-- The identities (a) to (f) of 41_arithmetic section 6, which the spec infers "[derived: from rules R140 to R163]". -/
def Obligations.ArithmeticIdentities : Prop :=
  (∀ (v : Byte) (s : State), ∃ t, exec (.adi v) s = .next t ∧
    256 * t.flags.cy.toNat + (t.reg .a).toNat = (s.reg .a).toNat + v.toNat) ∧
  (∀ (v : Byte) (s : State), ∃ t, exec (.aci v) s = .next t ∧
    256 * t.flags.cy.toNat + (t.reg .a).toNat = (s.reg .a).toNat + v.toNat + s.flags.cy.toNat) ∧
  (∀ (r : Reg) (s : State), ∃ t, exec (Instr.aluReg .add r) s = .next t ∧
    256 * t.flags.cy.toNat + (t.reg .a).toNat = (s.reg .a).toNat + (s.reg r).toNat) ∧
  (∀ (r : Reg) (s : State), ∃ t, exec (Instr.aluReg .adc r) s = .next t ∧
    256 * t.flags.cy.toNat + (t.reg .a).toNat = (s.reg .a).toNat + (s.reg r).toNat + s.flags.cy.toNat) ∧
  (∀ s : State, ∃ t, exec (Instr.aluMem .add) s = .next t ∧
    256 * t.flags.cy.toNat + (t.reg .a).toNat = (s.reg .a).toNat + (s.load s.hl).toNat) ∧
  (∀ s : State, ∃ t, exec (Instr.aluMem .adc) s = .next t ∧
    256 * t.flags.cy.toNat + (t.reg .a).toNat = (s.reg .a).toNat + (s.load s.hl).toNat + s.flags.cy.toNat) ∧
  (∀ (v : Byte) (s : State), ∃ t, exec (.sui v) s = .next t ∧
    ((t.reg .a).toNat : Int) - 256 * t.flags.cy.toNat = (s.reg .a).toNat - v.toNat) ∧
  (∀ (v : Byte) (s : State), ∃ t, exec (.sbi v) s = .next t ∧
    ((t.reg .a).toNat : Int) - 256 * t.flags.cy.toNat = (s.reg .a).toNat - v.toNat - s.flags.cy.toNat) ∧
  (∀ (r : Reg) (s : State), ∃ t, exec (Instr.aluReg .sub r) s = .next t ∧
    ((t.reg .a).toNat : Int) - 256 * t.flags.cy.toNat = (s.reg .a).toNat - (s.reg r).toNat) ∧
  (∀ (r : Reg) (s : State), ∃ t, exec (Instr.aluReg .sbb r) s = .next t ∧
    ((t.reg .a).toNat : Int) - 256 * t.flags.cy.toNat = (s.reg .a).toNat - (s.reg r).toNat - s.flags.cy.toNat) ∧
  (∀ s : State, ∃ t, exec (Instr.aluMem .sub) s = .next t ∧
    ((t.reg .a).toNat : Int) - 256 * t.flags.cy.toNat = (s.reg .a).toNat - (s.load s.hl).toNat) ∧
  (∀ s : State, ∃ t, exec (Instr.aluMem .sbb) s = .next t ∧
    ((t.reg .a).toNat : Int) - 256 * t.flags.cy.toNat = (s.reg .a).toNat - (s.load s.hl).toNat - s.flags.cy.toNat) ∧
  (∀ (rp : Rp) (s : State), ∃ t, exec (Instr.dad rp) s = .next t ∧
    65536 * t.flags.cy.toNat + t.hl.toNat = s.hl.toNat + (s.rp rp).toNat) ∧
  (∀ (r : Byte) (f : Flags), ((flagsZSP r f).z = true ↔ r = 0) ∧
    ((flagsZSP r f).z = true → (flagsZSP r f).s = false ∧ (flagsZSP r f).p = true)) ∧
  (∀ (r : Reg) (s : State), ∃ t u, exec (Instr.inr r) s = .next t ∧ exec (Instr.dcr r) t = .next u ∧
    (∀ q, u.reg q = s.reg q) ∧ u.flags.cy = s.flags.cy ∧ u.flags.ac = s.flags.ac ∧ zspOf (s.reg r) u.flags) ∧
  ∀ s : State, ∃ t, exec .addA s = .next t ∧ (t.flags.cy = true ↔ 0x80 ≤ (s.reg .a).toNat)

/-! ### Logical, compare, rotate, carry -/

/-- R170 to R178: ANA, ANI, XRA, XRI, ORA, ORI combine into A bit by bit, clear CY and AC, and write Z, S, P. -/
def Obligations.LogicCombines : Prop :=
  aluForms .ana (combines (fun a v => a &&& v)) ∧ aluForms .xra (combines (fun a v => a ^^^ v)) ∧
  aluForms .ora (combines (fun a v => a ||| v))

/-- R179 to R181: CMP and CPI write the flags of A minus the operand and leave A alone. -/
def Obligations.ComparesOnlyFlags : Prop := aluForms .cmp compares

/-- CMP writes exactly the flags SUB writes from the same inputs, in every form; they differ in A alone. -/
def Obligations.CompareFlagsAreSubtractFlags : Prop :=
  ∀ s : State,
    (∀ r, ∃ t u, exec (Instr.aluReg .cmp r) s = .next t ∧ exec (Instr.aluReg .sub r) s = .next u ∧
      t = u.setReg .a (s.reg .a)) ∧
    (∃ t u, exec (Instr.aluMem .cmp) s = .next t ∧ exec (Instr.aluMem .sub) s = .next u ∧ t = u.setReg .a (s.reg .a)) ∧
    ∀ d8, ∃ t u, exec (Instr.aluImm .cmp d8) s = .next t ∧ exec (Instr.aluImm .sub d8) s = .next u ∧
      t = u.setReg .a (s.reg .a)

/-- R182 to R185: the four rotates by one bit; only CY is written. Eight RLC restore A and leave CY a copy of bit 0; nine RAL
restore A and CY. -/
def Obligations.RotatesByOneBit : Prop :=
  rotates .rlc 0b00000111 (fun a _ => (a <<< 1) ||| (a >>> 7)) (fun a => a.getLsbD 7) ∧
  rotates .rrc 0b00001111 (fun a _ => (a >>> 1) ||| ((a &&& 1) <<< 7)) (fun a => a.getLsbD 0) ∧
  rotates .ral 0b00010111 (fun a c => (a <<< 1) ||| BitVec.ofNat 8 c.toNat) (fun a => a.getLsbD 7) ∧
  rotates .rar 0b00011111 (fun a c => (a >>> 1) ||| (BitVec.ofNat 8 c.toNat <<< 7)) (fun a => a.getLsbD 0) ∧
  ∀ s : State,
    (∃ t, repeatExec .rlc 8 s = .next t ∧ t.regs = s.regs ∧ t.flags.cy = (s.reg .a).getLsbD 0) ∧
    ∃ t, repeatExec .ral 9 s = .next t ∧ t.regs = s.regs ∧ t.flags = s.flags

/-- R186, R187, R188: CMA complements A and writes no flag (twice restores A); CMC complements CY; STC sets it. -/
def Obligations.ComplementsAndSetCarry : Prop :=
  encodedAs .cma [0b00101111] ∧ encodedAs .cmc [0b00111111] ∧ encodedAs .stc [0b00110111] ∧
  costs .cma 4 ∧ costs .cmc 4 ∧ costs .stc 4 ∧
  ∀ s : State,
    (∃ t, exec .cma s = .next t ∧ t.reg .a = s.reg .a ^^^ 0xFF ∧ changesOnly [.a] [] s t ∧ t.flags = s.flags ∧
      samePointers s t ∧ exec .cma t = .next s) ∧
    (∃ t, exec .cmc s = .next t ∧ t.flags = { s.flags with cy := !s.flags.cy } ∧ changesOnly [] [] s t ∧
      samePointers s t) ∧
    ∃ t, exec .stc s = .next t ∧ t.flags = { s.flags with cy := true } ∧ changesOnly [] [] s t ∧ samePointers s t

/-! ### Control transfer -/

/-- R200, R201, R202, R208: the condition table with its codes; JMP, Jcc and PCHL write PC and nothing else; a Jcc whose condition is false
leaves PC = pcn. -/
def Obligations.Jumps : Prop :=
  (∀ f : Flags, condHolds .nz f = !f.z ∧ condHolds .z f = f.z ∧ condHolds .nc f = !f.cy ∧ condHolds .c f = f.cy ∧
    condHolds .po f = !f.p ∧ condHolds .pe f = f.p ∧ condHolds .p f = !f.s ∧ condHolds .m f = f.s) ∧
  condCode .nz = 0b000 ∧ condCode .z = 0b001 ∧ condCode .nc = 0b010 ∧ condCode .c = 0b011 ∧
  condCode .po = 0b100 ∧ condCode .pe = 0b101 ∧ condCode .p = 0b110 ∧ condCode .m = 0b111 ∧
  ∀ (cond : Cond) (addr : Word) (s : State),
    (encodedAs (.jmp addr) [0xC3, loByte addr, hiByte addr] ∧ costs (.jmp addr) 10 ∧
      ∃ t, exec (.jmp addr) s = .next t ∧ t.pc = addr ∧ changesOnly [] [] s t ∧ t.flags = s.flags ∧ t.sp = s.sp) ∧
    (encodedAs (Instr.jcc cond addr) [0b11#2 ++ condCode cond ++ 0b010#3, loByte addr, hiByte addr] ∧
      costs (Instr.jcc cond addr) 10 ∧
      ∃ t, exec (Instr.jcc cond addr) s = .next t ∧ t.pc = (if condHolds cond s.flags then addr else s.pc) ∧
        changesOnly [] [] s t ∧ t.flags = s.flags ∧ t.sp = s.sp) ∧
    (encodedAs .pchl [0b11101001] ∧ costs .pchl 5 ∧
      ∃ t, exec .pchl s = .next t ∧ t.pc = joinBytes (s.reg .h) (s.reg .l) ∧ changesOnly [] [] s t ∧
        t.flags = s.flags ∧ t.sp = s.sp)

/-- R203, R204, R207: CALL, Ccc and RST push the address of the next instruction, high byte at SP-1, low byte at SP-2, and
jump; a Ccc whose condition is false changes nothing. -/
def Obligations.CallsPushTheReturnAddress : Prop :=
  ∀ (cond : Cond) (addr : Word) (n : BitVec 3) (s : State),
    (encodedAs (.call addr) [0b11001101, loByte addr, hiByte addr] ∧ costs (.call addr) 17 ∧
      ∃ t, exec (.call addr) s = .next t ∧ pushesAndJumps s.pc addr s t) ∧
    (encodedAs (Instr.ccc cond addr) [0b11#2 ++ condCode cond ++ 0b100#3, loByte addr, hiByte addr] ∧
      cycles (Instr.ccc cond addr) true = some 17 ∧ cycles (Instr.ccc cond addr) false = some 11 ∧
      ∃ t, exec (Instr.ccc cond addr) s = .next t ∧
        (condHolds cond s.flags = true → pushesAndJumps s.pc addr s t) ∧ (condHolds cond s.flags = false → t = s)) ∧
    (encodedAs (Instr.rst n) [0b11#2 ++ n ++ 0b111#3] ∧ costs (Instr.rst n) 11 ∧
      ∃ t, exec (Instr.rst n) s = .next t ∧ pushesAndJumps s.pc (BitVec.ofNat 16 (8 * n.toNat)) s t)

/-- R205, R206: RET and Rcc pop PC, low byte at SP, high byte at SP+1; an Rcc whose condition is false changes nothing. After a
CALL, a RET from any state whose SP and two stack bytes are as the CALL left them returns after the CALL with SP restored. -/
def Obligations.ReturnsPopThePc : Prop :=
  encodedAs .ret [0b11001001] ∧ costs .ret 10 ∧
  (∀ s : State, ∃ t, exec .ret s = .next t ∧ returns s t) ∧
  (∀ (cond : Cond) (s : State),
    encodedAs (Instr.rcc cond) [0b11#2 ++ condCode cond ++ 0b000#3] ∧
    cycles (Instr.rcc cond) true = some 11 ∧ cycles (Instr.rcc cond) false = some 5 ∧
    ∃ t, exec (Instr.rcc cond) s = .next t ∧
      (condHolds cond s.flags = true → returns s t) ∧ (condHolds cond s.flags = false → t = s)) ∧
  ∀ (addr : Word) (s u : State), ∃ t, exec (.call addr) s = .next t ∧
    (u.sp = t.sp → u.load t.sp = t.load t.sp → u.load (t.sp + 1) = t.load (t.sp + 1) →
      ∃ w, exec .ret u = .next w ∧ w.pc = s.pc ∧ w.sp = s.sp)

/-- R26: how each instruction leaves PC, over a whole step from pc0 = s.pc. -/
def Obligations.PcAfterAStep : Prop :=
  ∀ s : State, s.run = .running → ∃ t, step s = .next t ∧
    (∀ addr, fetchInstr s = .jmp addr ∨ fetchInstr s = .call addr → t.pc = addr) ∧
    (∀ cond addr, fetchInstr s = Instr.jcc cond addr ∨ fetchInstr s = Instr.ccc cond addr →
      t.pc = if condHolds cond s.flags then addr else s.pc + 3) ∧
    (fetchInstr s = .ret → t.pc = joinBytes (s.load (s.sp + 1)) (s.load s.sp)) ∧
    (∀ cond, fetchInstr s = Instr.rcc cond →
      t.pc = if condHolds cond s.flags then joinBytes (s.load (s.sp + 1)) (s.load s.sp) else s.pc + 1) ∧
    (∀ n, fetchInstr s = Instr.rst n → t.pc = BitVec.ofNat 16 (8 * n.toNat)) ∧
    (fetchInstr s = .pchl → t.pc = joinBytes (s.reg .h) (s.reg .l)) ∧
    (fetchInstr s = .hlt → t.pc = s.pc + 1 ∧ t.run = .halted) ∧
    (isUndefined (fetchInstr s) → t.pc = s.pc + 1 ∧ t.run = .trapped) ∧
    (¬ redirects (fetchInstr s) → t.pc = s.pc + BitVec.ofNat 16 (opcodeLength (s.load s.pc)))

/-! ### Stack, input/output, machine control -/

/-- R221, R222: PUSH rp and PUSH PSW: the high byte (B, D, H or A) at SP-1, the low byte (C, E, L or the packed flags) at
SP-2. -/
def Obligations.PushesStoreTheWord : Prop :=
  (∀ (p : Pair) (s : State),
    encodedAs (Instr.push p) [0b11#2 ++ pairCode p ++ 0b0101#4] ∧ costs (Instr.push p) 11 ∧
    ∃ t, exec (Instr.push p) s = .next t ∧ t.load (s.sp - 1) = s.reg (pairHi p) ∧
      t.load (s.sp - 2) = s.reg (pairLo p) ∧ t.sp = s.sp - 2 ∧ t.pc = s.pc ∧
      changesOnly [] [s.sp - 1, s.sp - 2] s t ∧ t.flags = s.flags) ∧
  encodedAs .pushPsw [0b11110101] ∧ costs .pushPsw 11 ∧
  ∀ s : State, ∃ t, exec .pushPsw s = .next t ∧ t.load (s.sp - 1) = s.reg .a ∧
    (t.load (s.sp - 2)).toNat = s.flags.z.toNat + 2 * s.flags.s.toNat + 4 * s.flags.p.toNat + 8 * s.flags.cy.toNat
      + 16 * s.flags.ac.toNat ∧
    t.sp = s.sp - 2 ∧ t.pc = s.pc ∧ changesOnly [] [s.sp - 1, s.sp - 2] s t ∧ t.flags = s.flags

/-- R223, R224: POP rp and POP PSW: the low half (or the five flags, bits 7:5 ignored) from SP, the high half (or A) from
SP+1. -/
def Obligations.PopsLoadTheWord : Prop :=
  (∀ (p : Pair) (s : State),
    encodedAs (Instr.pop p) [0b11#2 ++ pairCode p ++ 0b0001#4] ∧ costs (Instr.pop p) 10 ∧
    ∃ t, exec (Instr.pop p) s = .next t ∧ t.reg (pairLo p) = s.load s.sp ∧ t.reg (pairHi p) = s.load (s.sp + 1) ∧
      t.sp = s.sp + 2 ∧ t.pc = s.pc ∧ changesOnly [pairHi p, pairLo p] [] s t ∧ t.flags = s.flags) ∧
  encodedAs .popPsw [0b11110001] ∧ costs .popPsw 10 ∧
  ∀ s : State, ∃ t, exec .popPsw s = .next t ∧ t.reg .a = s.load (s.sp + 1) ∧
    t.flags.z = (s.load s.sp).getLsbD 0 ∧ t.flags.s = (s.load s.sp).getLsbD 1 ∧ t.flags.p = (s.load s.sp).getLsbD 2 ∧
    t.flags.cy = (s.load s.sp).getLsbD 3 ∧ t.flags.ac = (s.load s.sp).getLsbD 4 ∧
    t.sp = s.sp + 2 ∧ t.pc = s.pc ∧ changesOnly [.a] [] s t

/-- PUSH rp then POP rp restores the pair and SP, PUSH PSW then POP PSW restores A and the five flags, for every SP; only
the two stack bytes differ afterwards. -/
def Obligations.PushPopRestores : Prop :=
  ∀ s : State,
    (∀ p : Pair, ∃ t u, exec (Instr.push p) s = .next t ∧ exec (Instr.pop p) t = .next u ∧
      (∀ r, u.reg r = s.reg r) ∧ u.flags = s.flags ∧ u.sp = s.sp ∧ u.pc = s.pc ∧
      sameMemoryExcept [s.sp - 1, s.sp - 2] s u) ∧
    ∃ t u, exec .pushPsw s = .next t ∧ exec .popPsw t = .next u ∧ (∀ r, u.reg r = s.reg r) ∧ u.flags = s.flags ∧
      u.sp = s.sp ∧ u.pc = s.pc ∧ sameMemoryExcept [s.sp - 1, s.sp - 2] s u

/-- R225, R228: XTHL swaps HL with the word at SP, SP unchanged (twice restores all); SPHL copies HL to SP. -/
def Obligations.XthlAndSphl : Prop :=
  encodedAs .xthl [0b11100011] ∧ costs .xthl 18 ∧ encodedAs .sphl [0b11111001] ∧ costs .sphl 5 ∧
  ∀ s : State,
    (∃ t, exec .xthl s = .next t ∧ t.reg .l = s.load s.sp ∧ t.reg .h = s.load (s.sp + 1) ∧
      t.load s.sp = s.reg .l ∧ t.load (s.sp + 1) = s.reg .h ∧ changesOnly [.h, .l] [s.sp, s.sp + 1] s t ∧
      t.flags = s.flags ∧ samePointers s t ∧
      ∃ u, exec .xthl t = .next u ∧ changesOnly [] [] s u ∧ u.flags = s.flags ∧ samePointers s u) ∧
    ∃ t, exec .sphl s = .next t ∧ t.sp = joinBytes (s.reg .h) (s.reg .l) ∧ t.pc = s.pc ∧ changesOnly [] [] s t ∧
      t.flags = s.flags

/-- R226, R227, R231: IN and OUT, whatever the port, and NOP change nothing beyond the pc's advance; A keeps its value. -/
def Obligations.PortsAndNopChangeNothing : Prop :=
  ∀ (port : Byte) (s : State),
    (encodedAs (.inPort port) [0b11011011, port] ∧ costs (.inPort port) 10 ∧ exec (.inPort port) s = .next s) ∧
    (encodedAs (.outPort port) [0b11010011, port] ∧ costs (.outPort port) 10 ∧ exec (.outPort port) s = .next s) ∧
    (encodedAs .nop [0b00000000] ∧ costs .nop 4 ∧ exec .nop s = .next s)

/-- R229, R230, R232, R244: EI sets INTE, DI clears it, HLT sets RUN to HALTED and writes no trap record; nothing else changes;
the step that fetches HLT ends with the outcome Halted, PC after the HLT, everything else as it was. -/
def Obligations.MachineControl : Prop :=
  encodedAs .ei [0b11111011] ∧ encodedAs .di [0b11110011] ∧ encodedAs .hlt [0b01110110] ∧
  costs .ei 4 ∧ costs .di 4 ∧ costs .hlt 7 ∧
  ∀ s : State, exec .ei s = .next { s with inte := true } ∧ exec .di s = .next { s with inte := false } ∧
    exec .hlt s = .next { s with run := .halted } ∧
    (s.run = .running → s.load s.pc = 0x76 → coreStep s = .halted { s with pc := s.pc + 1, run := .halted } 7)

/-- The trap entry of 60_exceptions section 1 for each undefined opcode, in the state after its one byte was fetched (`s.pc` is pc0 + 1): the trap
record and RUN, nothing else; it has no cycle count. -/
def Obligations.TrapEntry : Prop :=
  ∀ (u : UndefOp) (s : State),
    encodedAs (Instr.undef u) [undefByte u] ∧ (∀ b, cycles (Instr.undef u) b = none) ∧
    exec (Instr.undef u) s
      = .next { s with trapOpcode := undefByte u, trapPc := s.pc - 1, run := .trapped }

/-! ### Rules about all instructions -/

/-- Which flags each group of instructions keeps, clears or sets (the table of 10_state R28), over all instructions. -/
def Obligations.FlagDiscipline : Prop :=
  ∀ (i : Instr) (s : State), ∃ t, exec i s = .next t ∧
    (isLogic i → t.flags.cy = false ∧ t.flags.ac = false) ∧
    (isIncDec i → t.flags.cy = s.flags.cy ∧ t.flags.ac = s.flags.ac) ∧
    (writesCarryOnly i → t.flags = { s.flags with cy := t.flags.cy }) ∧
    (i = .cmc → t.flags = { s.flags with cy := !s.flags.cy }) ∧
    (i = .stc → t.flags = { s.flags with cy := true }) ∧
    (¬ (writesFiveFlags i ∨ isLogic i ∨ isIncDec i ∨ writesCarryOnly i ∨ i = .cmc ∨ i = .stc ∨ i = .daa ∨ i = .popPsw) →
      t.flags = s.flags)

/-- INTE is written only by EI and DI, RUN only by HLT and the undefined opcodes, the trap record only by the undefined
opcodes (10_state R30 to R32). -/
def Obligations.ControlStateWriters : Prop :=
  ∀ (i : Instr) (s : State), ∃ t, exec i s = .next t ∧
    (i ≠ .ei → i ≠ .di → t.inte = s.inte) ∧
    (i ≠ .hlt → ¬ isUndefined i → t.run = s.run) ∧
    (¬ isUndefined i → t.trapOpcode = s.trapOpcode ∧ t.trapPc = s.trapPc)

/-- SP is written only by the instructions 10_state R24 lists, and memory only by those 20_memory R55 lists with a write. -/
def Obligations.SpAndMemoryWriters : Prop :=
  ∀ (i : Instr) (s : State), ∃ t, exec i s = .next t ∧
    (¬ writesSp i → t.sp = s.sp) ∧ (¬ stores i → ∀ a, t.load a = s.load a)

/-- No instruction reads INTE or the trap record: two states that differ in these alone are carried by every instruction and
by every step to states that differ in these alone (10_state R30, R31, R32). -/
def Obligations.ControlStateIsInvisible : Prop :=
  ∀ (s : State) (b : Bool) (op : Byte) (pc : Word),
    (∀ i : Instr, ∃ t t', exec i s = .next t ∧
      exec i { s with inte := b, trapOpcode := op, trapPc := pc } = .next t' ∧
      t' = { t with inte := t'.inte, trapOpcode := t'.trapOpcode, trapPc := t'.trapPc }) ∧
    ∃ t t', step s = .next t ∧ step { s with inte := b, trapOpcode := op, trapPc := pc } = .next t' ∧
      t' = { t with inte := t'.inte, trapOpcode := t'.trapOpcode, trapPc := t'.trapPc }
end

