-- ==== Sys2Proof/Laws/State.lean ====
section
/-! SUPPORT. For every update of the state, one lemma per field, true by `rfl`: no proof unfolds a record update. -/

namespace Sys2Proof.Machine

variable (s : State)

/-! ### `setReg` -/

@[simp] theorem setReg_regs (r : Reg) (v : Byte) : (s.setReg r v).regs = regsSet s.regs r v := rfl
@[simp] theorem setReg_flags (r : Reg) (v : Byte) : (s.setReg r v).flags = s.flags := rfl
@[simp] theorem setReg_sp (r : Reg) (v : Byte) : (s.setReg r v).sp = s.sp := rfl
@[simp] theorem setReg_pc (r : Reg) (v : Byte) : (s.setReg r v).pc = s.pc := rfl
@[simp] theorem setReg_inte (r : Reg) (v : Byte) : (s.setReg r v).inte = s.inte := rfl
@[simp] theorem setReg_run (r : Reg) (v : Byte) : (s.setReg r v).run = s.run := rfl
@[simp] theorem setReg_trapOpcode (r : Reg) (v : Byte) : (s.setReg r v).trapOpcode = s.trapOpcode := rfl
@[simp] theorem setReg_trapPc (r : Reg) (v : Byte) : (s.setReg r v).trapPc = s.trapPc := rfl
@[simp] theorem setReg_mem (r : Reg) (v : Byte) : (s.setReg r v).mem = s.mem := rfl

/-! ### `setPair` -/

@[simp] theorem setPair_regs (p : Pair) (v : Word) : (s.setPair p v).regs = regsSet (regsSet s.regs (pairHi p) (hiByte v)) (pairLo p) (loByte v) := rfl
@[simp] theorem setPair_flags (p : Pair) (v : Word) : (s.setPair p v).flags = s.flags := rfl
@[simp] theorem setPair_sp (p : Pair) (v : Word) : (s.setPair p v).sp = s.sp := rfl
@[simp] theorem setPair_pc (p : Pair) (v : Word) : (s.setPair p v).pc = s.pc := rfl
@[simp] theorem setPair_inte (p : Pair) (v : Word) : (s.setPair p v).inte = s.inte := rfl
@[simp] theorem setPair_run (p : Pair) (v : Word) : (s.setPair p v).run = s.run := rfl
@[simp] theorem setPair_trapOpcode (p : Pair) (v : Word) : (s.setPair p v).trapOpcode = s.trapOpcode := rfl
@[simp] theorem setPair_trapPc (p : Pair) (v : Word) : (s.setPair p v).trapPc = s.trapPc := rfl
@[simp] theorem setPair_mem (p : Pair) (v : Word) : (s.setPair p v).mem = s.mem := rfl

/-! ### `setFlags` -/

@[simp] theorem setFlags_regs (f : Flags) : (s.setFlags f).regs = s.regs := rfl
@[simp] theorem setFlags_flags (f : Flags) : (s.setFlags f).flags = f := rfl
@[simp] theorem setFlags_sp (f : Flags) : (s.setFlags f).sp = s.sp := rfl
@[simp] theorem setFlags_pc (f : Flags) : (s.setFlags f).pc = s.pc := rfl
@[simp] theorem setFlags_inte (f : Flags) : (s.setFlags f).inte = s.inte := rfl
@[simp] theorem setFlags_run (f : Flags) : (s.setFlags f).run = s.run := rfl
@[simp] theorem setFlags_trapOpcode (f : Flags) : (s.setFlags f).trapOpcode = s.trapOpcode := rfl
@[simp] theorem setFlags_trapPc (f : Flags) : (s.setFlags f).trapPc = s.trapPc := rfl
@[simp] theorem setFlags_mem (f : Flags) : (s.setFlags f).mem = s.mem := rfl

/-! ### `setSp` -/

@[simp] theorem setSp_regs (v : Word) : (s.setSp v).regs = s.regs := rfl
@[simp] theorem setSp_flags (v : Word) : (s.setSp v).flags = s.flags := rfl
@[simp] theorem setSp_sp (v : Word) : (s.setSp v).sp = v := rfl
@[simp] theorem setSp_pc (v : Word) : (s.setSp v).pc = s.pc := rfl
@[simp] theorem setSp_inte (v : Word) : (s.setSp v).inte = s.inte := rfl
@[simp] theorem setSp_run (v : Word) : (s.setSp v).run = s.run := rfl
@[simp] theorem setSp_trapOpcode (v : Word) : (s.setSp v).trapOpcode = s.trapOpcode := rfl
@[simp] theorem setSp_trapPc (v : Word) : (s.setSp v).trapPc = s.trapPc := rfl
@[simp] theorem setSp_mem (v : Word) : (s.setSp v).mem = s.mem := rfl

/-! ### `setPc` -/

@[simp] theorem setPc_regs (v : Word) : (s.setPc v).regs = s.regs := rfl
@[simp] theorem setPc_flags (v : Word) : (s.setPc v).flags = s.flags := rfl
@[simp] theorem setPc_sp (v : Word) : (s.setPc v).sp = s.sp := rfl
@[simp] theorem setPc_pc (v : Word) : (s.setPc v).pc = v := rfl
@[simp] theorem setPc_inte (v : Word) : (s.setPc v).inte = s.inte := rfl
@[simp] theorem setPc_run (v : Word) : (s.setPc v).run = s.run := rfl
@[simp] theorem setPc_trapOpcode (v : Word) : (s.setPc v).trapOpcode = s.trapOpcode := rfl
@[simp] theorem setPc_trapPc (v : Word) : (s.setPc v).trapPc = s.trapPc := rfl
@[simp] theorem setPc_mem (v : Word) : (s.setPc v).mem = s.mem := rfl

/-! ### `setInte` -/

@[simp] theorem setInte_regs (b : Bool) : (s.setInte b).regs = s.regs := rfl
@[simp] theorem setInte_flags (b : Bool) : (s.setInte b).flags = s.flags := rfl
@[simp] theorem setInte_sp (b : Bool) : (s.setInte b).sp = s.sp := rfl
@[simp] theorem setInte_pc (b : Bool) : (s.setInte b).pc = s.pc := rfl
@[simp] theorem setInte_inte (b : Bool) : (s.setInte b).inte = b := rfl
@[simp] theorem setInte_run (b : Bool) : (s.setInte b).run = s.run := rfl
@[simp] theorem setInte_trapOpcode (b : Bool) : (s.setInte b).trapOpcode = s.trapOpcode := rfl
@[simp] theorem setInte_trapPc (b : Bool) : (s.setInte b).trapPc = s.trapPc := rfl
@[simp] theorem setInte_mem (b : Bool) : (s.setInte b).mem = s.mem := rfl

/-! ### `store` -/

@[simp] theorem store_regs (a : Word) (v : Byte) : (s.store a v).regs = s.regs := rfl
@[simp] theorem store_flags (a : Word) (v : Byte) : (s.store a v).flags = s.flags := rfl
@[simp] theorem store_sp (a : Word) (v : Byte) : (s.store a v).sp = s.sp := rfl
@[simp] theorem store_pc (a : Word) (v : Byte) : (s.store a v).pc = s.pc := rfl
@[simp] theorem store_inte (a : Word) (v : Byte) : (s.store a v).inte = s.inte := rfl
@[simp] theorem store_run (a : Word) (v : Byte) : (s.store a v).run = s.run := rfl
@[simp] theorem store_trapOpcode (a : Word) (v : Byte) : (s.store a v).trapOpcode = s.trapOpcode := rfl
@[simp] theorem store_trapPc (a : Word) (v : Byte) : (s.store a v).trapPc = s.trapPc := rfl
@[simp] theorem store_mem (a : Word) (v : Byte) : (s.store a v).mem = memWrite s.mem a.toNat v := rfl

/-! ### `store16` -/

@[simp] theorem store16_regs (a : Word) (v : Word) : (s.store16 a v).regs = s.regs := rfl
@[simp] theorem store16_flags (a : Word) (v : Word) : (s.store16 a v).flags = s.flags := rfl
@[simp] theorem store16_sp (a : Word) (v : Word) : (s.store16 a v).sp = s.sp := rfl
@[simp] theorem store16_pc (a : Word) (v : Word) : (s.store16 a v).pc = s.pc := rfl
@[simp] theorem store16_inte (a : Word) (v : Word) : (s.store16 a v).inte = s.inte := rfl
@[simp] theorem store16_run (a : Word) (v : Word) : (s.store16 a v).run = s.run := rfl
@[simp] theorem store16_trapOpcode (a : Word) (v : Word) : (s.store16 a v).trapOpcode = s.trapOpcode := rfl
@[simp] theorem store16_trapPc (a : Word) (v : Word) : (s.store16 a v).trapPc = s.trapPc := rfl
@[simp] theorem store16_mem (a : Word) (v : Word) : (s.store16 a v).mem = memWrite (memWrite s.mem a.toNat (loByte v)) (a + 1).toNat (hiByte v) := rfl

/-! ### `setM` -/

@[simp] theorem setM_regs (v : Byte) : (s.setM v).regs = s.regs := rfl
@[simp] theorem setM_flags (v : Byte) : (s.setM v).flags = s.flags := rfl
@[simp] theorem setM_sp (v : Byte) : (s.setM v).sp = s.sp := rfl
@[simp] theorem setM_pc (v : Byte) : (s.setM v).pc = s.pc := rfl
@[simp] theorem setM_inte (v : Byte) : (s.setM v).inte = s.inte := rfl
@[simp] theorem setM_run (v : Byte) : (s.setM v).run = s.run := rfl
@[simp] theorem setM_trapOpcode (v : Byte) : (s.setM v).trapOpcode = s.trapOpcode := rfl
@[simp] theorem setM_trapPc (v : Byte) : (s.setM v).trapPc = s.trapPc := rfl
@[simp] theorem setM_mem (v : Byte) : (s.setM v).mem = memWrite s.mem s.hl.toNat v := rfl

/-! ### `push16` -/

@[simp] theorem push16_regs (v : Word) : (s.push16 v).regs = s.regs := rfl
@[simp] theorem push16_flags (v : Word) : (s.push16 v).flags = s.flags := rfl
@[simp] theorem push16_sp (v : Word) : (s.push16 v).sp = s.sp - 2 := rfl
@[simp] theorem push16_pc (v : Word) : (s.push16 v).pc = s.pc := rfl
@[simp] theorem push16_inte (v : Word) : (s.push16 v).inte = s.inte := rfl
@[simp] theorem push16_run (v : Word) : (s.push16 v).run = s.run := rfl
@[simp] theorem push16_trapOpcode (v : Word) : (s.push16 v).trapOpcode = s.trapOpcode := rfl
@[simp] theorem push16_trapPc (v : Word) : (s.push16 v).trapPc = s.trapPc := rfl
@[simp] theorem push16_mem (v : Word) : (s.push16 v).mem = memWrite (memWrite s.mem (s.sp - 1).toNat (hiByte v)) (s.sp - 2).toNat (loByte v) := rfl

/-! ### `popped` -/

@[simp] theorem popped_regs : s.popped.regs = s.regs := rfl
@[simp] theorem popped_flags : s.popped.flags = s.flags := rfl
@[simp] theorem popped_sp : s.popped.sp = s.sp + 2 := rfl
@[simp] theorem popped_pc : s.popped.pc = s.pc := rfl
@[simp] theorem popped_inte : s.popped.inte = s.inte := rfl
@[simp] theorem popped_run : s.popped.run = s.run := rfl
@[simp] theorem popped_trapOpcode : s.popped.trapOpcode = s.trapOpcode := rfl
@[simp] theorem popped_trapPc : s.popped.trapPc = s.trapPc := rfl
@[simp] theorem popped_mem : s.popped.mem = s.mem := rfl

/-! ### `setPsw` -/

@[simp] theorem setPsw_regs (w : Word) : (s.setPsw w).regs = regsSet s.regs .a (hiByte w) := rfl
@[simp] theorem setPsw_flags (w : Word) : (s.setPsw w).flags = unpackFlags (loByte w) := rfl
@[simp] theorem setPsw_sp (w : Word) : (s.setPsw w).sp = s.sp := rfl
@[simp] theorem setPsw_pc (w : Word) : (s.setPsw w).pc = s.pc := rfl
@[simp] theorem setPsw_inte (w : Word) : (s.setPsw w).inte = s.inte := rfl
@[simp] theorem setPsw_run (w : Word) : (s.setPsw w).run = s.run := rfl
@[simp] theorem setPsw_trapOpcode (w : Word) : (s.setPsw w).trapOpcode = s.trapOpcode := rfl
@[simp] theorem setPsw_trapPc (w : Word) : (s.setPsw w).trapPc = s.trapPc := rfl
@[simp] theorem setPsw_mem (w : Word) : (s.setPsw w).mem = s.mem := rfl

/-! ### `halt` -/

@[simp] theorem halt_regs : s.halt.regs = s.regs := rfl
@[simp] theorem halt_flags : s.halt.flags = s.flags := rfl
@[simp] theorem halt_sp : s.halt.sp = s.sp := rfl
@[simp] theorem halt_pc : s.halt.pc = s.pc := rfl
@[simp] theorem halt_inte : s.halt.inte = s.inte := rfl
@[simp] theorem halt_run : s.halt.run = .halted := rfl
@[simp] theorem halt_trapOpcode : s.halt.trapOpcode = s.trapOpcode := rfl
@[simp] theorem halt_trapPc : s.halt.trapPc = s.trapPc := rfl
@[simp] theorem halt_mem : s.halt.mem = s.mem := rfl

/-! ### `takeTrap` -/

@[simp] theorem takeTrap_regs (op : Byte) : (s.takeTrap op).regs = s.regs := rfl
@[simp] theorem takeTrap_flags (op : Byte) : (s.takeTrap op).flags = s.flags := rfl
@[simp] theorem takeTrap_sp (op : Byte) : (s.takeTrap op).sp = s.sp := rfl
@[simp] theorem takeTrap_pc (op : Byte) : (s.takeTrap op).pc = s.pc := rfl
@[simp] theorem takeTrap_inte (op : Byte) : (s.takeTrap op).inte = s.inte := rfl
@[simp] theorem takeTrap_run (op : Byte) : (s.takeTrap op).run = .trapped := rfl
@[simp] theorem takeTrap_trapOpcode (op : Byte) : (s.takeTrap op).trapOpcode = op := rfl
@[simp] theorem takeTrap_trapPc (op : Byte) : (s.takeTrap op).trapPc = s.pc - 1 := rfl
@[simp] theorem takeTrap_mem (op : Byte) : (s.takeTrap op).mem = s.mem := rfl

/-! ### Reads see through the updates of other fields -/

@[simp] theorem load_setReg (r : Reg) (v : Byte) (x : Word) : (s.setReg r v).load x = s.load x := rfl
@[simp] theorem load_setPair (p : Pair) (v : Word) (x : Word) : (s.setPair p v).load x = s.load x := rfl
@[simp] theorem reg_setFlags (f : Flags) (q : Reg) : (s.setFlags f).reg q = s.reg q := rfl
@[simp] theorem pair_setFlags (f : Flags) (q : Pair) : (s.setFlags f).pair q = s.pair q := rfl
@[simp] theorem load_setFlags (f : Flags) (x : Word) : (s.setFlags f).load x = s.load x := rfl
@[simp] theorem reg_setSp (v : Word) (q : Reg) : (s.setSp v).reg q = s.reg q := rfl
@[simp] theorem pair_setSp (v : Word) (q : Pair) : (s.setSp v).pair q = s.pair q := rfl
@[simp] theorem load_setSp (v : Word) (x : Word) : (s.setSp v).load x = s.load x := rfl
@[simp] theorem reg_setPc (v : Word) (q : Reg) : (s.setPc v).reg q = s.reg q := rfl
@[simp] theorem pair_setPc (v : Word) (q : Pair) : (s.setPc v).pair q = s.pair q := rfl
@[simp] theorem load_setPc (v : Word) (x : Word) : (s.setPc v).load x = s.load x := rfl
@[simp] theorem reg_setInte (b : Bool) (q : Reg) : (s.setInte b).reg q = s.reg q := rfl
@[simp] theorem pair_setInte (b : Bool) (q : Pair) : (s.setInte b).pair q = s.pair q := rfl
@[simp] theorem load_setInte (b : Bool) (x : Word) : (s.setInte b).load x = s.load x := rfl
@[simp] theorem reg_store (a : Word) (v : Byte) (q : Reg) : (s.store a v).reg q = s.reg q := rfl
@[simp] theorem pair_store (a : Word) (v : Byte) (q : Pair) : (s.store a v).pair q = s.pair q := rfl
@[simp] theorem reg_store16 (a : Word) (v : Word) (q : Reg) : (s.store16 a v).reg q = s.reg q := rfl
@[simp] theorem pair_store16 (a : Word) (v : Word) (q : Pair) : (s.store16 a v).pair q = s.pair q := rfl
@[simp] theorem reg_setM (v : Byte) (q : Reg) : (s.setM v).reg q = s.reg q := rfl
@[simp] theorem pair_setM (v : Byte) (q : Pair) : (s.setM v).pair q = s.pair q := rfl
@[simp] theorem reg_push16 (v : Word) (q : Reg) : (s.push16 v).reg q = s.reg q := rfl
@[simp] theorem pair_push16 (v : Word) (q : Pair) : (s.push16 v).pair q = s.pair q := rfl
@[simp] theorem reg_popped (q : Reg) : s.popped.reg q = s.reg q := rfl
@[simp] theorem pair_popped (q : Pair) : s.popped.pair q = s.pair q := rfl
@[simp] theorem load_popped (x : Word) : s.popped.load x = s.load x := rfl
@[simp] theorem load_setPsw (w : Word) (x : Word) : (s.setPsw w).load x = s.load x := rfl
@[simp] theorem reg_halt (q : Reg) : s.halt.reg q = s.reg q := rfl
@[simp] theorem pair_halt (q : Pair) : s.halt.pair q = s.pair q := rfl
@[simp] theorem load_halt (x : Word) : s.halt.load x = s.load x := rfl
@[simp] theorem reg_takeTrap (op : Byte) (q : Reg) : (s.takeTrap op).reg q = s.reg q := rfl
@[simp] theorem pair_takeTrap (op : Byte) (q : Pair) : (s.takeTrap op).pair q = s.pair q := rfl
@[simp] theorem load_takeTrap (op : Byte) (x : Word) : (s.takeTrap op).load x = s.load x := rfl

/-! ### Registers -/

@[simp] theorem reg_setReg_same (r : Reg) (v : Byte) : (s.setReg r v).reg r = v := by
  cases r <;> rfl

@[simp] theorem reg_setReg_ne (r q : Reg) (v : Byte) (h : q ≠ r) : (s.setReg r v).reg q = s.reg q := by
  cases r <;> cases q <;> first | rfl | exact absurd rfl h

/-- Two states with the same registers have the same register file. -/
theorem regs_eq_of_reg {s t : State} (h : ∀ r, t.reg r = s.reg r) : t.regs = s.regs := by
  have ha := h .a
  have hb := h .b
  have hc := h .c
  have hd := h .d
  have he := h .e
  have hh := h .h
  have hl := h .l
  simp only [State.reg, regsGet] at ha hb hc hd he hh hl
  cases hs : s.regs
  cases ht : t.regs
  simp_all

/-- What a pair written reads as. -/
@[simp] theorem pair_setPair_same (p : Pair) (v : Word) : (s.setPair p v).pair p = v := by
  cases p <;> exact joinBytes_hi_lo v

/-- Writing a pair leaves every register outside it alone. -/
theorem reg_setPair_ne (p : Pair) (v : Word) (q : Reg) (hh : q ≠ pairHi p) (hl : q ≠ pairLo p) :
    (s.setPair p v).reg q = s.reg q := by
  cases p <;> cases q <;> first | rfl | exact absurd rfl hh | exact absurd rfl hl

/-- The halves of a pair written. -/
theorem reg_setPair_hi (p : Pair) (v : Word) : (s.setPair p v).reg (pairHi p) = hiByte v := by
  cases p <;> rfl

theorem reg_setPair_lo (p : Pair) (v : Word) : (s.setPair p v).reg (pairLo p) = loByte v := by
  cases p <;> rfl

end Sys2Proof.Machine
end

