-- ==== Sys2Proof/Laws/Memory.lean ====
section
/-! SUPPORT. The laws of memory: a read after a write, and the canonical form kept by every memory operation. -/

namespace Sys2Proof.Machine

/-! ### The list -/

theorem memRead_memErase_same (m : List Host.Cell) (n : Nat) : memRead (memErase m n) n = unlistedByte := by
  induction m with
  | nil => rfl
  | cons x rest ih =>
    obtain ⟨a, b⟩ := x
    by_cases h : a = n <;> simp [memErase, memRead, h, ih]

theorem memRead_memErase_ne (m : List Host.Cell) {n k : Nat} (h : k ≠ n) : memRead (memErase m n) k = memRead m k := by
  induction m with
  | nil => rfl
  | cons x rest ih =>
    obtain ⟨a, b⟩ := x
    by_cases ha : a = n
    · have : a ≠ k := fun e => h (e ▸ ha)
      simp [memErase, memRead, ha, ih, ha ▸ this]
    · simp only [memErase, ha, if_false, memRead, ih]

/-- Where no entry has the address, the inserted one is read. -/
theorem memRead_memInsert_same (m : List Host.Cell) (n : Nat) (v : Byte) (h : ∀ x ∈ m, x.1 ≠ n) :
    memRead (memInsert m n v) n = v := by
  induction m with
  | nil => simp [memInsert, memRead]
  | cons x rest ih =>
    obtain ⟨a, b⟩ := x
    have ha : a ≠ n := h (a, b) (by simp)
    by_cases hlt : n < a
    · simp [memInsert, memRead, hlt]
    · simp [memInsert, memRead, hlt, ha, ih (fun y hy => h y (by simp [hy]))]

theorem memRead_memInsert_ne (m : List Host.Cell) {n k : Nat} (v : Byte) (h : k ≠ n) :
    memRead (memInsert m n v) k = memRead m k := by
  induction m with
  | nil => simp [memInsert, memRead, Ne.symm h]
  | cons x rest ih =>
    obtain ⟨a, b⟩ := x
    by_cases hlt : n < a
    · simp [memInsert, memRead, hlt, Ne.symm h]
    · simp only [memInsert, hlt, if_false, memRead, ih]

theorem memErase_ne (m : List Host.Cell) (n : Nat) : ∀ x ∈ memErase m n, x.1 ≠ n := by
  induction m with
  | nil => simp [memErase]
  | cons x rest ih =>
    obtain ⟨a, b⟩ := x
    by_cases h : a = n
    · simpa [memErase, h] using ih
    · intro y hy
      simp only [memErase, h, if_false, List.mem_cons] at hy
      rcases hy with rfl | hy
      · exact h
      · exact ih y hy

/-- A write is read back, whatever the list was. -/
theorem memRead_memWrite_same (m : List Host.Cell) (n : Nat) (v : Byte) : memRead (memWrite m n v) n = v := by
  unfold memWrite
  split
  · next h => rw [memRead_memErase_same, h]
  · exact memRead_memInsert_same _ _ _ (memErase_ne m n)

/-- A write leaves every other address alone. -/
theorem memRead_memWrite_ne (m : List Host.Cell) {n k : Nat} (v : Byte) (h : k ≠ n) :
    memRead (memWrite m n v) k = memRead m k := by
  unfold memWrite
  split
  · exact memRead_memErase_ne m h
  · rw [memRead_memInsert_ne _ _ h, memRead_memErase_ne m h]

/-! ### The canonical form -/

/-- The canonical form, unfolded at the head. -/
theorem memWf_cons (x : Host.Cell) (rest : List Host.Cell) :
    memWf (x :: rest) = true ↔
      x.1 < Config.memSize ∧ x.2 ≠ unlistedByte ∧ (∀ y ∈ rest, x.1 < y.1) ∧ memWf rest = true := by
  simp [memWf, and_assoc]

theorem mem_memErase {m : List Host.Cell} {n : Nat} {x : Host.Cell} (h : x ∈ memErase m n) : x ∈ m := by
  induction m with
  | nil => simp [memErase] at h
  | cons y rest ih =>
    obtain ⟨a, b⟩ := y
    by_cases ha : a = n
    · simp only [memErase, ha, if_true] at h
      exact List.mem_cons_of_mem _ (ih h)
    · simp only [memErase, ha, if_false, List.mem_cons] at h
      rcases h with rfl | h
      · simp
      · exact List.mem_cons_of_mem _ (ih h)

theorem mem_memInsert {m : List Host.Cell} {n : Nat} {v : Byte} {x : Host.Cell} (h : x ∈ memInsert m n v) :
    x = (n, v) ∨ x ∈ m := by
  induction m with
  | nil => simpa [memInsert] using h
  | cons y rest ih =>
    obtain ⟨a, b⟩ := y
    by_cases hlt : n < a
    · simpa [memInsert, hlt] using h
    · simp only [memInsert, hlt, if_false, List.mem_cons] at h
      rcases h with rfl | h
      · simp
      · rcases ih h with rfl | h
        · simp
        · simp [h]

theorem memErase_wf {m : List Host.Cell} (n : Nat) (h : memWf m = true) : memWf (memErase m n) = true := by
  induction m with
  | nil => rfl
  | cons x rest ih =>
    obtain ⟨a, b⟩ := x
    obtain ⟨h1, h2, h3, h4⟩ := (memWf_cons _ _).mp h
    by_cases ha : a = n
    · simpa [memErase, ha] using ih h4
    · simp only [memErase, ha, if_false]
      exact (memWf_cons _ _).mpr ⟨h1, h2, fun y hy => h3 y (mem_memErase hy), ih h4⟩

theorem memInsert_wf {m : List Host.Cell} {n : Nat} {v : Byte} (h : memWf m = true) (hn : n < Config.memSize)
    (hv : v ≠ unlistedByte) (hne : ∀ x ∈ m, x.1 ≠ n) : memWf (memInsert m n v) = true := by
  induction m with
  | nil => exact (memWf_cons _ _).mpr ⟨hn, hv, by simp, rfl⟩
  | cons x rest ih =>
    obtain ⟨a, b⟩ := x
    obtain ⟨h1, h2, h3, h4⟩ := (memWf_cons _ _).mp h
    have hane : a ≠ n := hne (a, b) (by simp)
    by_cases hlt : n < a
    · simp only [memInsert, hlt, if_true]
      refine (memWf_cons _ _).mpr ⟨hn, hv, ?_, h⟩
      intro y hy
      rcases List.mem_cons.mp hy with rfl | hy
      · exact hlt
      · exact Nat.lt_trans hlt (h3 y hy)
    · simp only [memInsert, hlt, if_false]
      refine (memWf_cons _ _).mpr ⟨h1, h2, ?_, ih h4 (fun y hy => hne y (by simp [hy]))⟩
      intro y hy
      rcases mem_memInsert hy with rfl | hy
      · simp only; omega
      · exact h3 y hy

/-- Every write keeps the canonical form. -/
theorem memWrite_wf {m : List Host.Cell} {n : Nat} (v : Byte) (h : memWf m = true) (hn : n < Config.memSize) :
    memWf (memWrite m n v) = true := by
  unfold memWrite
  split
  · exact memErase_wf n h
  · next hv => exact memInsert_wf (memErase_wf n h) hn hv (memErase_ne m n)

/-- An address is inside the 65536 bytes (20_memory R50). -/
theorem toNat_lt_memSize (a : Word) : a.toNat < Config.memSize := a.isLt

/-! ### Byte access of the state -/

variable (s : State)

@[simp] theorem load_store_same (a : Word) (v : Byte) : (s.store a v).load a = v :=
  memRead_memWrite_same _ _ _

theorem load_store_ne {a x : Word} (v : Byte) (h : x ≠ a) : (s.store a v).load x = s.load x :=
  memRead_memWrite_ne _ _ (fun e => h (BitVec.eq_of_toNat_eq e))

/-- A byte read after a byte write. -/
theorem load_store (a x : Word) (v : Byte) : (s.store a v).load x = if x = a then v else s.load x := by
  split
  · next h => rw [h, load_store_same]
  · next h => exact load_store_ne s v h

/-- Every byte store keeps the canonical form; each wider store and each push is made of these. -/
theorem store_wf {s : State} (a : Word) (v : Byte) (h : memWf s.mem = true) : memWf (s.store a v).mem = true :=
  memWrite_wf v h (toNat_lt_memSize a)

theorem store16_wf {s : State} (a v : Word) (h : memWf s.mem = true) : memWf (s.store16 a v).mem = true :=
  store_wf _ _ (store_wf _ _ h)

theorem push16_wf {s : State} (v : Word) (h : memWf s.mem = true) : memWf (s.push16 v).mem = true :=
  store_wf (s := s.store (s.sp - 1) (hiByte v)) _ _ (store_wf _ _ h)

/-- The memory of the reset state has the canonical form. -/
theorem reset_mem_wf : memWf State.reset.mem = true := rfl

/-- After reset every byte reads 0x00 (10_state R36). -/
@[simp] theorem reset_load (a : Word) : State.reset.load a = 0 := rfl

end Sys2Proof.Machine
end

