-- ==== Sys2Proof/Laws/Ops.lean ====
section
/-! SUPPORT. What the shared operations over registers, memory and the stack can do, each said once: the value written, and the
frame. Also the few facts about neighbouring addresses that they rest on. -/

namespace Sys2Proof.Machine

/-! ### Neighbouring addresses -/

theorem ne_add_one (a : Word) : a ≠ a + 1 := by
  intro h
  have := congrArg (fun x => x - a) h
  simp at this

theorem ne_add_two (a : Word) : a ≠ a + 2 := by
  intro h
  have := congrArg (fun x => x - a) h
  simp at this

theorem add_one_ne_add_two (a : Word) : a + 1 ≠ a + 2 := by
  intro h
  have h' : a + 1 - a = a + 2 - a := congrArg (fun x => x - a) h
  rw [BitVec.add_comm a 1, BitVec.add_comm a 2, BitVec.add_sub_cancel, BitVec.add_sub_cancel] at h'
  exact absurd h' (by decide)

theorem sub_two_add_one (a : Word) : a - 2 + 1 = a - 1 := by
  apply BitVec.eq_of_toNat_eq
  simp
  omega

theorem sub_two_add_two (a : Word) : a - 2 + 2 = a := BitVec.sub_add_cancel a 2

theorem sub_one_ne_sub_two (a : Word) : a - 1 ≠ a - 2 := by
  have h := (ne_add_one (a - 2)).symm
  rwa [sub_two_add_one] at h

/-! ### Frames of the primitive updates -/

variable (s : State)

theorem changesOnly_refl (rs : List Reg) (as : List Word) : changesOnly rs as s s :=
  ⟨fun _ _ => rfl, fun _ _ => rfl, rfl, rfl, rfl, rfl⟩

theorem changesOnly_setReg (r : Reg) (v : Byte) : changesOnly [r] [] s (s.setReg r v) :=
  ⟨fun q hq => reg_setReg_ne s r q v (by simpa using hq), fun _ _ => rfl, rfl, rfl, rfl, rfl⟩

theorem changesOnly_setPair (p : Pair) (v : Word) : changesOnly [pairHi p, pairLo p] [] s (s.setPair p v) :=
  ⟨fun q hq => by simp only [List.mem_cons, List.not_mem_nil, or_false, not_or] at hq; exact reg_setPair_ne s p v q hq.1 hq.2,
    fun _ _ => rfl, rfl, rfl, rfl, rfl⟩

theorem changesOnly_setFlags (f : Flags) (rs : List Reg) (as : List Word) : changesOnly rs as s (s.setFlags f) :=
  ⟨fun _ _ => rfl, fun _ _ => rfl, rfl, rfl, rfl, rfl⟩

/-- A result into A with any flags: what every accumulator instruction comes to. -/
theorem changesOnly_setFlags_setA (f : Flags) (v : Byte) : changesOnly [.a] [] s ((s.setFlags f).setReg .a v) :=
  ⟨fun q hq => reg_setReg_ne _ .a q v (by simpa using hq), fun _ _ => rfl, rfl, rfl, rfl, rfl⟩

theorem changesOnly_store (a : Word) (v : Byte) : changesOnly [] [a] s (s.store a v) :=
  ⟨fun _ _ => rfl, fun _ hx => load_store_ne s v (by simpa using hx), rfl, rfl, rfl, rfl⟩

/-! ### Word access (20_memory R53) -/

theorem load_store16 (a v x : Word) :
    (s.store16 a v).load x = if x = a + 1 then hiByte v else if x = a then loByte v else s.load x := by
  simp only [State.store16, load_store]

/-! ### The stack (44_stack R220) -/

/-- Everything a push does to memory: the high byte at SP-1, the low byte at SP-2. -/
theorem load_push16 (v x : Word) :
    (s.push16 v).load x = if x = s.sp - 2 then loByte v else if x = s.sp - 1 then hiByte v else s.load x := by
  simp only [State.push16, load_setSp, load_store]

theorem changesOnly_push16 (v : Word) : changesOnly [] [s.sp - 1, s.sp - 2] s (s.push16 v) := by
  refine ⟨fun _ _ => rfl, fun x hx => ?_, rfl, rfl, rfl, rfl⟩
  simp only [List.mem_cons, List.not_mem_nil, or_false, not_or] at hx
  rw [load_push16, if_neg hx.2, if_neg hx.1]

/-- What a push leaves on top of the stack. -/
theorem topWord_push16 (v : Word) : (s.push16 v).topWord = v := by
  show joinBytes ((s.push16 v).load (s.sp - 2 + 1)) ((s.push16 v).load (s.sp - 2)) = v
  rw [sub_two_add_one, load_push16, load_push16, if_neg (sub_one_ne_sub_two s.sp), if_pos rfl, if_pos rfl]
  exact joinBytes_hi_lo v

/-! ### The conditional templates (43_branch R202, R204, R206) -/

theorem jumpIf_true {cond : Cond} (addr : Word) (h : condHolds cond s.flags = true) :
    jumpIf cond addr s = s.setPc addr := if_pos h

theorem jumpIf_false {cond : Cond} (addr : Word) (h : condHolds cond s.flags = false) : jumpIf cond addr s = s := by
  simp [jumpIf, h]

theorem callIf_true {cond : Cond} (addr : Word) (h : condHolds cond s.flags = true) :
    callIf cond addr s = (s.push16 s.pc).setPc addr := if_pos h

theorem callIf_false {cond : Cond} (addr : Word) (h : condHolds cond s.flags = false) : callIf cond addr s = s := by
  simp [callIf, h]

theorem returnIf_true {cond : Cond} (h : condHolds cond s.flags = true) :
    returnIf cond s = s.popped.setPc s.topWord := if_pos h

theorem returnIf_false {cond : Cond} (h : condHolds cond s.flags = false) : returnIf cond s = s := by
  simp [returnIf, h]

/-! ### Exchanges -/

/-- Memory after XTHL (R225). -/
theorem load_exchangeTopHl (x : Word) :
    (exchangeTopHl s).load x = if x = s.sp + 1 then s.reg .h else if x = s.sp then s.reg .l else s.load x := by
  simp [exchangeTopHl, load_store]

/-- XCHG as one record update (R122). -/
theorem exchangeDeHl_eq :
    exchangeDeHl s
      = { s with regs := { s.regs with d := s.regs.h, e := s.regs.l, h := s.regs.d, l := s.regs.e } } := by
  simp [exchangeDeHl, State.setPair, State.pair, pairHi, pairLo, State.setReg, State.reg, regsSet, regsGet]

end Sys2Proof.Machine
end

