-- ==== Sys2Proof/Laws/Alu.lean ====
section
/-! SUPPORT. The arithmetic templates in plain numbers: what they leave in A and in each flag. -/

namespace Sys2Proof.Machine

theorem parity8_table :
    ∀ q < 4, ∀ n < 64, parity8 (BitVec.ofNat 8 (64 * q + n)) = evenParity (BitVec.ofNat 8 (64 * q + n)) := by decide

/-- `parity8` is the exclusive or of the eight bits (41_arithmetic R140), over all bytes. -/
theorem parity8_eq (v : Byte) : parity8 v = evenParity v := by
  have h := v.isLt
  have e := parity8_table (v.toNat / 64) (by omega) (v.toNat % 64) (by omega)
  rwa [Nat.div_add_mod, BitVec.ofNat_toNat, BitVec.setWidth_eq] at e

/-- `flagsZSP` writes the flags of its byte (10_state R27). -/
theorem zspOf_flagsZSP (r : Byte) (f : Flags) : zspOf r (flagsZSP r f) :=
  ⟨rfl, by simp [flagsZSP, BitVec.msb_eq_getLsbD_last], parity8_eq r⟩

@[simp] theorem flagsZSP_cy (r : Byte) (f : Flags) : (flagsZSP r f).cy = f.cy := rfl

@[simp] theorem flagsZSP_ac (r : Byte) (f : Flags) : (flagsZSP r f).ac = f.ac := rfl

@[simp] theorem flagsArith_cy (t : Word) (f : Flags) : (flagsArith t f).cy = decide (0xFF < t.toNat) := rfl

@[simp] theorem flagsArith_ac (t : Word) (f : Flags) : (flagsArith t f).ac = f.ac := rfl

variable (v : Byte) (c : Bool) (s : State)

/-- The intermediate of an addition: its low byte is the sum modulo 256. -/
theorem loByte_sum (a : Byte) :
    loByte (a.zeroExtend 16 + v.zeroExtend 16 + bitWord c) = BitVec.ofNat 8 (a.toNat + v.toNat + c.toNat) := by
  apply BitVec.eq_of_toNat_eq
  rw [loByte_toNat]
  simp [bitWord_toNat]

/-- The intermediate of a subtraction: its low byte is the difference modulo 256. -/
theorem loByte_difference (a : Byte) :
    loByte (a.zeroExtend 16 - v.zeroExtend 16 - bitWord c) = a - v - BitVec.ofNat 8 c.toNat := by
  have h1 := a.isLt
  have h2 := v.isLt
  have h3 : c.toNat ≤ 1 := by cases c <;> simp
  apply BitVec.eq_of_toNat_eq
  rw [loByte_toNat]
  simp [bitWord_toNat]
  omega

theorem addTemplate_a : (addTemplate v c s).reg .a = BitVec.ofNat 8 ((s.reg .a).toNat + v.toNat + c.toNat) :=
  loByte_sum v c (s.reg .a)

theorem addTemplate_cy : (addTemplate v c s).flags.cy = decide (256 ≤ (s.reg .a).toNat + v.toNat + c.toNat) := by
  have h1 := (s.reg .a).isLt
  have h2 := v.isLt
  have h3 : c.toNat ≤ 1 := by cases c <;> simp
  show decide _ = _
  simp [bitWord_toNat]
  omega

theorem addTemplate_ac :
    (addTemplate v c s).flags.ac = decide (16 ≤ (s.reg .a).toNat % 16 + v.toNat % 16 + c.toNat) := by
  show decide _ = _
  simp [loNibble_toNat]
  omega

theorem addTemplate_frame : changesOnly [.a] [] s (addTemplate v c s) := changesOnly_setFlags_setA s _ _

theorem subTemplate_a : (subTemplate v c s).reg .a = s.reg .a - v - BitVec.ofNat 8 c.toNat :=
  loByte_difference v c (s.reg .a)

theorem subTemplate_cy : (subTemplate v c s).flags.cy = decide ((s.reg .a).toNat < v.toNat + c.toNat) := by
  have h1 := (s.reg .a).isLt
  have h2 := v.isLt
  have h3 : c.toNat ≤ 1 := by cases c <;> simp
  show decide _ = _
  simp [bitWord_toNat]
  omega

theorem subTemplate_ac :
    (subTemplate v c s).flags.ac = decide (v.toNat % 16 + c.toNat ≤ (s.reg .a).toNat % 16) := by
  have h3 : c.toNat ≤ 1 := by cases c <;> simp
  show acSub _ _ _ = _
  simp [acSub, loNibble_toNat]
  omega

theorem subTemplate_frame : changesOnly [.a] [] s (subTemplate v c s) := changesOnly_setFlags_setA s _ _

/-- Z, S and P of both templates are those of the value they leave in A. -/
theorem addTemplate_flags_of_a :
    (addTemplate v c s).flags = flagsZSP ((addTemplate v c s).reg .a) (addTemplate v c s).flags := rfl

theorem subTemplate_flags_of_a :
    (subTemplate v c s).flags = flagsZSP ((subTemplate v c s).reg .a) (subTemplate v c s).flags := rfl

theorem logicTemplate_flags_of_a (r : Byte) :
    (logicTemplate r s).flags = flagsZSP r { s.flags with cy := false, ac := false } := rfl

theorem logicTemplate_frame (r : Byte) : changesOnly [.a] [] s (logicTemplate r s) := changesOnly_setFlags_setA s _ _

/-- CMP leaves the state a subtraction without borrow leaves, but for A. -/
theorem cmpTemplate_flags : (cmpTemplate v s).flags = (subTemplate v false s).flags := by
  simp [cmpTemplate, subTemplate, bitWord]

/-- The two-step increment of a pair, by whether the low half wraps (41_arithmetic R160). -/
theorem incrementPair_wrap (p : Pair) (h : s.reg (pairLo p) + 1 = 0) :
    incrementPair (.pair p) s = (s.setReg (pairLo p) 0).setReg (pairHi p) (s.reg (pairHi p) + 1) := by
  have ne : pairHi p ≠ pairLo p := by cases p <;> decide
  simp only [incrementPair, reg_setReg_same, h, reg_setReg_ne _ _ _ _ ne]
  exact if_pos trivial

theorem incrementPair_noWrap (p : Pair) (h : s.reg (pairLo p) + 1 ≠ 0) :
    incrementPair (.pair p) s = s.setReg (pairLo p) (s.reg (pairLo p) + 1) := by
  simp only [incrementPair, reg_setReg_same]
  exact if_neg h

/-- The two-step decrement of a pair (R161). -/
theorem decrementPair_wrap (p : Pair) (h : s.reg (pairLo p) - 1 = 0xFF) :
    decrementPair (.pair p) s = (s.setReg (pairLo p) 0xFF).setReg (pairHi p) (s.reg (pairHi p) - 1) := by
  have ne : pairHi p ≠ pairLo p := by cases p <;> decide
  simp only [decrementPair, reg_setReg_same, h, reg_setReg_ne _ _ _ _ ne]
  exact if_pos trivial

theorem decrementPair_noWrap (p : Pair) (h : s.reg (pairLo p) - 1 ≠ 0xFF) :
    decrementPair (.pair p) s = s.setReg (pairLo p) (s.reg (pairLo p) - 1) := by
  simp only [decrementPair, reg_setReg_same]
  exact if_neg h

end Sys2Proof.Machine
end

