-- ==== Sys2Proof/Laws/Decode.lean ====
section
/-! SUPPORT. The decoder by length: an opcode byte calls for one, two or three bytes, and `decode` is `decodeBytes` on
that many. -/

namespace Sys2Proof

open Sys2Proof.Machine

theorem opcodeLength_cases (op : Byte) : opcodeLength op = 1 ∨ opcodeLength op = 2 ∨ opcodeLength op = 3 := by
  unfold opcodeLength
  split
  · exact .inr (.inr rfl)
  · split
    · exact .inr (.inl rfl)
    · exact .inl rfl

theorem decode_one (op : Byte) (rest : List Byte) (h : opcodeLength op = 1) :
    decode (op :: rest) = .ok (decodeBytes op 0 0, rest) := by
  simp [decode, h]

theorem decode_two (op b2 : Byte) (rest : List Byte) (h : opcodeLength op = 2) :
    decode (op :: b2 :: rest) = .ok (decodeBytes op b2 0, rest) := by
  simp [decode, h]

theorem decode_three (op b2 b3 : Byte) (rest : List Byte) (h : opcodeLength op = 3) :
    decode (op :: b2 :: b3 :: rest) = .ok (decodeBytes op b2 b3, rest) := by
  simp [decode, h]

end Sys2Proof
end

