-- ==== Sys2Proof/Laws/FormCases.lean ====
section
/-! SUPPORT. Case analysis by the spec's forms: what holds of every form holds of every instruction. A statement over all
instructions is proved with about 50 cases, each over a whole form, in place of 256. -/

namespace Sys2Proof

/-- To show `motive i` for every instruction, show it for every form. -/
theorem forall_forms {motive : Instr → Prop}
    (h_mov : ∀ (r1 : Reg) (r2 : Reg), motive (Instr.mov r1 r2))
    (h_movFromM : ∀ (r : Reg), motive (Instr.movFromM r)) (h_movToM : ∀ (r : Reg), motive (Instr.movToM r))
    (h_mvi : ∀ (r : Reg) (d8 : Byte), motive (Instr.mvi r d8))
    (h_lxi : ∀ (rp : Rp) (d16 : Word), motive (Instr.lxi rp d16))
    (h_ldax : ∀ (p : AddrPair), motive (Instr.ldax p)) (h_stax : ∀ (p : AddrPair), motive (Instr.stax p))
    (h_aluReg : ∀ (op : AluOp) (r : Reg), motive (Instr.aluReg op r))
    (h_aluMem : ∀ (op : AluOp), motive (Instr.aluMem op))
    (h_aluImm : ∀ (op : AluOp) (d8 : Byte), motive (Instr.aluImm op d8))
    (h_inr : ∀ (r : Reg), motive (Instr.inr r)) (h_dcr : ∀ (r : Reg), motive (Instr.dcr r))
    (h_inx : ∀ (rp : Rp), motive (Instr.inx rp)) (h_dcx : ∀ (rp : Rp), motive (Instr.dcx rp))
    (h_dad : ∀ (rp : Rp), motive (Instr.dad rp))
    (h_jcc : ∀ (cond : Cond) (addr : Word), motive (Instr.jcc cond addr))
    (h_ccc : ∀ (cond : Cond) (addr : Word), motive (Instr.ccc cond addr))
    (h_rcc : ∀ (cond : Cond), motive (Instr.rcc cond)) (h_rst : ∀ (n : BitVec 3), motive (Instr.rst n))
    (h_push : ∀ (p : Pair), motive (Instr.push p)) (h_pop : ∀ (p : Pair), motive (Instr.pop p))
    (h_undef : ∀ (u : UndefOp), motive (Instr.undef u)) (h_mviM : ∀ d8 : Byte, motive (.mviM d8))
    (h_lda : ∀ addr : Word, motive (.lda addr)) (h_sta : ∀ addr : Word, motive (.sta addr))
    (h_lhld : ∀ addr : Word, motive (.lhld addr)) (h_shld : ∀ addr : Word, motive (.shld addr))
    (h_xchg : motive .xchg) (h_inrM : motive .inrM) (h_dcrM : motive .dcrM) (h_daa : motive .daa)
    (h_rlc : motive .rlc) (h_rrc : motive .rrc) (h_ral : motive .ral) (h_rar : motive .rar)
    (h_cma : motive .cma) (h_cmc : motive .cmc) (h_stc : motive .stc)
    (h_jmp : ∀ addr : Word, motive (.jmp addr)) (h_call : ∀ addr : Word, motive (.call addr))
    (h_ret : motive .ret) (h_pchl : motive .pchl) (h_pushPsw : motive .pushPsw) (h_popPsw : motive .popPsw)
    (h_xthl : motive .xthl) (h_inPort : ∀ port : Byte, motive (.inPort port))
    (h_outPort : ∀ port : Byte, motive (.outPort port)) (h_sphl : motive .sphl) (h_ei : motive .ei)
    (h_di : motive .di) (h_nop : motive .nop) (h_hlt : motive .hlt)
    (i : Instr) : motive i :=
  match i with
  | .movBB => h_mov .b .b
  | .movBC => h_mov .b .c
  | .movBD => h_mov .b .d
  | .movBE => h_mov .b .e
  | .movBH => h_mov .b .h
  | .movBL => h_mov .b .l
  | .movBA => h_mov .b .a
  | .movCB => h_mov .c .b
  | .movCC => h_mov .c .c
  | .movCD => h_mov .c .d
  | .movCE => h_mov .c .e
  | .movCH => h_mov .c .h
  | .movCL => h_mov .c .l
  | .movCA => h_mov .c .a
  | .movDB => h_mov .d .b
  | .movDC => h_mov .d .c
  | .movDD => h_mov .d .d
  | .movDE => h_mov .d .e
  | .movDH => h_mov .d .h
  | .movDL => h_mov .d .l
  | .movDA => h_mov .d .a
  | .movEB => h_mov .e .b
  | .movEC => h_mov .e .c
  | .movED => h_mov .e .d
  | .movEE => h_mov .e .e
  | .movEH => h_mov .e .h
  | .movEL => h_mov .e .l
  | .movEA => h_mov .e .a
  | .movHB => h_mov .h .b
  | .movHC => h_mov .h .c
  | .movHD => h_mov .h .d
  | .movHE => h_mov .h .e
  | .movHH => h_mov .h .h
  | .movHL => h_mov .h .l
  | .movHA => h_mov .h .a
  | .movLB => h_mov .l .b
  | .movLC => h_mov .l .c
  | .movLD => h_mov .l .d
  | .movLE => h_mov .l .e
  | .movLH => h_mov .l .h
  | .movLL => h_mov .l .l
  | .movLA => h_mov .l .a
  | .movAB => h_mov .a .b
  | .movAC => h_mov .a .c
  | .movAD => h_mov .a .d
  | .movAE => h_mov .a .e
  | .movAH => h_mov .a .h
  | .movAL => h_mov .a .l
  | .movAA => h_mov .a .a
  | .movBM => h_movFromM .b
  | .movCM => h_movFromM .c
  | .movDM => h_movFromM .d
  | .movEM => h_movFromM .e
  | .movHM => h_movFromM .h
  | .movLM => h_movFromM .l
  | .movAM => h_movFromM .a
  | .movMB => h_movToM .b
  | .movMC => h_movToM .c
  | .movMD => h_movToM .d
  | .movME => h_movToM .e
  | .movMH => h_movToM .h
  | .movML => h_movToM .l
  | .movMA => h_movToM .a
  | .mviB d8 => h_mvi .b d8
  | .mviC d8 => h_mvi .c d8
  | .mviD d8 => h_mvi .d d8
  | .mviE d8 => h_mvi .e d8
  | .mviH d8 => h_mvi .h d8
  | .mviL d8 => h_mvi .l d8
  | .mviA d8 => h_mvi .a d8
  | .mviM d8 => h_mviM d8
  | .lxiB d16 => h_lxi (.pair .bc) d16
  | .lxiD d16 => h_lxi (.pair .de) d16
  | .lxiH d16 => h_lxi (.pair .hl) d16
  | .lxiSp d16 => h_lxi .sp d16
  | .lda addr => h_lda addr
  | .sta addr => h_sta addr
  | .lhld addr => h_lhld addr
  | .shld addr => h_shld addr
  | .ldaxB => h_ldax .bc
  | .ldaxD => h_ldax .de
  | .staxB => h_stax .bc
  | .staxD => h_stax .de
  | .xchg => h_xchg
  | .addB => h_aluReg .add .b
  | .addC => h_aluReg .add .c
  | .addD => h_aluReg .add .d
  | .addE => h_aluReg .add .e
  | .addH => h_aluReg .add .h
  | .addL => h_aluReg .add .l
  | .addA => h_aluReg .add .a
  | .addM => h_aluMem .add
  | .adi d8 => h_aluImm .add d8
  | .adcB => h_aluReg .adc .b
  | .adcC => h_aluReg .adc .c
  | .adcD => h_aluReg .adc .d
  | .adcE => h_aluReg .adc .e
  | .adcH => h_aluReg .adc .h
  | .adcL => h_aluReg .adc .l
  | .adcA => h_aluReg .adc .a
  | .adcM => h_aluMem .adc
  | .aci d8 => h_aluImm .adc d8
  | .subB => h_aluReg .sub .b
  | .subC => h_aluReg .sub .c
  | .subD => h_aluReg .sub .d
  | .subE => h_aluReg .sub .e
  | .subH => h_aluReg .sub .h
  | .subL => h_aluReg .sub .l
  | .subA => h_aluReg .sub .a
  | .subM => h_aluMem .sub
  | .sui d8 => h_aluImm .sub d8
  | .sbbB => h_aluReg .sbb .b
  | .sbbC => h_aluReg .sbb .c
  | .sbbD => h_aluReg .sbb .d
  | .sbbE => h_aluReg .sbb .e
  | .sbbH => h_aluReg .sbb .h
  | .sbbL => h_aluReg .sbb .l
  | .sbbA => h_aluReg .sbb .a
  | .sbbM => h_aluMem .sbb
  | .sbi d8 => h_aluImm .sbb d8
  | .inrB => h_inr .b
  | .inrC => h_inr .c
  | .inrD => h_inr .d
  | .inrE => h_inr .e
  | .inrH => h_inr .h
  | .inrL => h_inr .l
  | .inrA => h_inr .a
  | .inrM => h_inrM
  | .dcrB => h_dcr .b
  | .dcrC => h_dcr .c
  | .dcrD => h_dcr .d
  | .dcrE => h_dcr .e
  | .dcrH => h_dcr .h
  | .dcrL => h_dcr .l
  | .dcrA => h_dcr .a
  | .dcrM => h_dcrM
  | .inxB => h_inx (.pair .bc)
  | .inxD => h_inx (.pair .de)
  | .inxH => h_inx (.pair .hl)
  | .inxSp => h_inx .sp
  | .dcxB => h_dcx (.pair .bc)
  | .dcxD => h_dcx (.pair .de)
  | .dcxH => h_dcx (.pair .hl)
  | .dcxSp => h_dcx .sp
  | .dadB => h_dad (.pair .bc)
  | .dadD => h_dad (.pair .de)
  | .dadH => h_dad (.pair .hl)
  | .dadSp => h_dad .sp
  | .daa => h_daa
  | .anaB => h_aluReg .ana .b
  | .anaC => h_aluReg .ana .c
  | .anaD => h_aluReg .ana .d
  | .anaE => h_aluReg .ana .e
  | .anaH => h_aluReg .ana .h
  | .anaL => h_aluReg .ana .l
  | .anaA => h_aluReg .ana .a
  | .anaM => h_aluMem .ana
  | .ani d8 => h_aluImm .ana d8
  | .xraB => h_aluReg .xra .b
  | .xraC => h_aluReg .xra .c
  | .xraD => h_aluReg .xra .d
  | .xraE => h_aluReg .xra .e
  | .xraH => h_aluReg .xra .h
  | .xraL => h_aluReg .xra .l
  | .xraA => h_aluReg .xra .a
  | .xraM => h_aluMem .xra
  | .xri d8 => h_aluImm .xra d8
  | .oraB => h_aluReg .ora .b
  | .oraC => h_aluReg .ora .c
  | .oraD => h_aluReg .ora .d
  | .oraE => h_aluReg .ora .e
  | .oraH => h_aluReg .ora .h
  | .oraL => h_aluReg .ora .l
  | .oraA => h_aluReg .ora .a
  | .oraM => h_aluMem .ora
  | .ori d8 => h_aluImm .ora d8
  | .cmpB => h_aluReg .cmp .b
  | .cmpC => h_aluReg .cmp .c
  | .cmpD => h_aluReg .cmp .d
  | .cmpE => h_aluReg .cmp .e
  | .cmpH => h_aluReg .cmp .h
  | .cmpL => h_aluReg .cmp .l
  | .cmpA => h_aluReg .cmp .a
  | .cmpM => h_aluMem .cmp
  | .cpi d8 => h_aluImm .cmp d8
  | .rlc => h_rlc
  | .rrc => h_rrc
  | .ral => h_ral
  | .rar => h_rar
  | .cma => h_cma
  | .cmc => h_cmc
  | .stc => h_stc
  | .jmp addr => h_jmp addr
  | .jnz addr => h_jcc .nz addr
  | .jz addr => h_jcc .z addr
  | .jnc addr => h_jcc .nc addr
  | .jc addr => h_jcc .c addr
  | .jpo addr => h_jcc .po addr
  | .jpe addr => h_jcc .pe addr
  | .jp addr => h_jcc .p addr
  | .jm addr => h_jcc .m addr
  | .call addr => h_call addr
  | .cnz addr => h_ccc .nz addr
  | .cz addr => h_ccc .z addr
  | .cnc addr => h_ccc .nc addr
  | .cc addr => h_ccc .c addr
  | .cpo addr => h_ccc .po addr
  | .cpe addr => h_ccc .pe addr
  | .cp addr => h_ccc .p addr
  | .cm addr => h_ccc .m addr
  | .ret => h_ret
  | .rnz => h_rcc .nz
  | .rz => h_rcc .z
  | .rnc => h_rcc .nc
  | .rc => h_rcc .c
  | .rpo => h_rcc .po
  | .rpe => h_rcc .pe
  | .rp => h_rcc .p
  | .rm => h_rcc .m
  | .rst0 => h_rst 0
  | .rst1 => h_rst 1
  | .rst2 => h_rst 2
  | .rst3 => h_rst 3
  | .rst4 => h_rst 4
  | .rst5 => h_rst 5
  | .rst6 => h_rst 6
  | .rst7 => h_rst 7
  | .pchl => h_pchl
  | .pushB => h_push .bc
  | .pushD => h_push .de
  | .pushH => h_push .hl
  | .pushPsw => h_pushPsw
  | .popB => h_pop .bc
  | .popD => h_pop .de
  | .popH => h_pop .hl
  | .popPsw => h_popPsw
  | .xthl => h_xthl
  | .inPort port => h_inPort port
  | .outPort port => h_outPort port
  | .sphl => h_sphl
  | .ei => h_ei
  | .di => h_di
  | .nop => h_nop
  | .hlt => h_hlt
  | .undef08 => h_undef .x08
  | .undef10 => h_undef .x10
  | .undef18 => h_undef .x18
  | .undef20 => h_undef .x20
  | .undef28 => h_undef .x28
  | .undef30 => h_undef .x30
  | .undef38 => h_undef .x38
  | .undefCB => h_undef .xCB
  | .undefD9 => h_undef .xD9
  | .undefDD => h_undef .xDD
  | .undefED => h_undef .xED
  | .undefFD => h_undef .xFD

end Sys2Proof
end

