-- ==== Sys2Proof/Laws/Forms.lean ====
section
/-! SUPPORT. `exec` of a form of the spec is its shared operation: one lemma per form, so that a proof about a form never
unfolds `exec` row by row. -/

namespace Sys2Proof.Machine

variable (s : State)

theorem exec_mov (r1 r2 : Reg) : exec (Instr.mov r1 r2) s = .next (movRegReg r1 r2 s) := by
  cases r1 <;> cases r2 <;> rfl

theorem exec_movFromM (r : Reg) : exec (Instr.movFromM r) s = .next (movRegMem r s) := by cases r <;> rfl

theorem exec_movToM (r : Reg) : exec (Instr.movToM r) s = .next (movMemReg r s) := by cases r <;> rfl

theorem exec_mvi (r : Reg) (d8 : Byte) : exec (Instr.mvi r d8) s = .next (moveImmReg r d8 s) := by cases r <;> rfl

theorem exec_lxi (rp : Rp) (d16 : Word) : exec (Instr.lxi rp d16) s = .next (loadImmPair rp d16 s) := by
  rcases rp with p | _
  · cases p <;> rfl
  · rfl

theorem exec_ldax (p : AddrPair) : exec (Instr.ldax p) s = .next (loadIndirect p s) := by cases p <;> rfl

theorem exec_stax (p : AddrPair) : exec (Instr.stax p) s = .next (storeIndirect p s) := by cases p <;> rfl

/-- What an operation of the ALU does with its operand. -/
def aluTemplate (op : AluOp) (v : Byte) (s : State) : State :=
  match op with
  | .add => addTemplate v false s
  | .adc => addTemplate v s.flags.cy s
  | .sub => subTemplate v false s
  | .sbb => subTemplate v s.flags.cy s
  | .ana => andTemplate v s
  | .xra => xorTemplate v s
  | .ora => orTemplate v s
  | .cmp => cmpTemplate v s

theorem exec_aluReg (op : AluOp) (r : Reg) : exec (Instr.aluReg op r) s = .next (aluTemplate op (s.reg r) s) := by
  cases op <;> cases r <;> rfl

theorem exec_aluMem (op : AluOp) : exec (Instr.aluMem op) s = .next (aluTemplate op s.operandM s) := by
  cases op <;> rfl

theorem exec_aluImm (op : AluOp) (d8 : Byte) : exec (Instr.aluImm op d8) s = .next (aluTemplate op d8 s) := by
  cases op <;> rfl

theorem exec_inr (r : Reg) : exec (Instr.inr r) s = .next (incrementReg r s) := by cases r <;> rfl

theorem exec_dcr (r : Reg) : exec (Instr.dcr r) s = .next (decrementReg r s) := by cases r <;> rfl

theorem exec_inx (rp : Rp) : exec (Instr.inx rp) s = .next (incrementPair rp s) := by
  rcases rp with p | _
  · cases p <;> rfl
  · rfl

theorem exec_dcx (rp : Rp) : exec (Instr.dcx rp) s = .next (decrementPair rp s) := by
  rcases rp with p | _
  · cases p <;> rfl
  · rfl

theorem exec_dad (rp : Rp) : exec (Instr.dad rp) s = .next (addPairToHl rp s) := by
  rcases rp with p | _
  · cases p <;> rfl
  · rfl

theorem exec_jcc (cond : Cond) (addr : Word) : exec (Instr.jcc cond addr) s = .next (jumpIf cond addr s) := by
  cases cond <;> rfl

theorem exec_ccc (cond : Cond) (addr : Word) : exec (Instr.ccc cond addr) s = .next (callIf cond addr s) := by
  cases cond <;> rfl

theorem exec_rcc (cond : Cond) : exec (Instr.rcc cond) s = .next (returnIf cond s) := by cases cond <;> rfl

/-- A property of the eight RST numbers, checked number by number. -/
theorem forall_rst {motive : BitVec 3 → Prop} (h0 : motive 0) (h1 : motive 1) (h2 : motive 2) (h3 : motive 3)
    (h4 : motive 4) (h5 : motive 5) (h6 : motive 6) (h7 : motive 7) (n : BitVec 3) : motive n := by
  obtain ⟨⟨k, hk⟩⟩ := n
  match k, hk with
  | 0, _ => exact h0
  | 1, _ => exact h1
  | 2, _ => exact h2
  | 3, _ => exact h3
  | 4, _ => exact h4
  | 5, _ => exact h5
  | 6, _ => exact h6
  | 7, _ => exact h7

theorem exec_rst (n : BitVec 3) : exec (Instr.rst n) s = .next (restart n s) := by
  induction n using forall_rst <;> rfl

theorem exec_push (p : Pair) : exec (Instr.push p) s = .next (pushPair p s) := by cases p <;> rfl

theorem exec_pop (p : Pair) : exec (Instr.pop p) s = .next (popPair p s) := by cases p <;> rfl

theorem exec_undef (u : UndefOp) : exec (Instr.undef u) s = .next (s.takeTrap (undefByte u)) := by cases u <;> rfl

end Sys2Proof.Machine
end

