-- ==== Sys2Proof/Laws/Step.lean ====
section
/-! SUPPORT. The step by the run state, runs step by step, and memory after the placing of a table row. -/

namespace Sys2Proof.Machine

theorem step_running {s : State} (h : s.run = .running) : step s = exec (fetchInstr s) (afterFetch s) := by
  simp [step, h]

theorem step_halted {s : State} (h : s.run = .halted) : step s = .next s := by
  simp [step, h, terminalStep]

theorem step_trapped {s : State} (h : s.run = .trapped) : step s = .next s := by
  simp [step, h, terminalStep]

/-- The first step of a run. -/
theorem run_succ {k : Nat} {s t : State} (h : step s = .next t) :
    Host.Core.run core (k + 1) s = Host.Core.run core k t := by
  have e := Host.Core.run.eq_2 core s k
  have h' : core.step s = .next t := h
  rw [h'] at e
  exact e

theorem reaches_succ {k : Nat} {s t u : State} (h : step s = .next t) (hk : reaches k t u) : reaches (k + 1) s u :=
  (run_succ h).trans hk

/-- A byte after the placing of a row's bits (the bits above `nbits` are zero). -/
theorem load_withFetchWord (s : State) (nbits w : Nat) (x : Word) :
    (s.withFetchWord nbits w).load x
      = if x = s.pc + 2 then BitVec.ofNat 8 (w % 2 ^ nbits / 65536)
        else if x = s.pc + 1 then BitVec.ofNat 8 (w % 2 ^ nbits / 256)
        else if x = s.pc then BitVec.ofNat 8 (w % 2 ^ nbits) else s.load x := by
  show (((s.store s.pc _).store (s.pc + 1) _).store (s.pc + 2) _).load x = _
  simp only [load_store]

/-- Placing a row keeps the memory's canonical form. -/
theorem withFetchWord_wf {s : State} (nbits w : Nat) (h : memWf s.mem = true) :
    memWf (s.withFetchWord nbits w).mem = true := by
  show memWf (((s.store s.pc _).store (s.pc + 1) _).store (s.pc + 2) _).mem = true
  exact store_wf _ _ (store_wf _ _ (store_wf _ _ h))

/-- The loader's port keeps the memory's canonical form. -/
theorem writeImage_wf (image : List Byte) :
    ∀ {s : State} (offset : Nat), memWf s.mem = true → memWf (s.writeImage offset image).mem = true := by
  induction image with
  | nil => exact fun _ h => h
  | cons b rest ih => exact fun offset h => ih (offset + 1) (store_wf _ _ h)

end Sys2Proof.Machine
end

