-- ==== Sys2Proof/Tests/Slice0.lean ====
section
/-! SUPPORT. Tests. (1) Ill-formed terms are refused. (2) Every opcode byte, written bit by bit from the field codes of
30_encoding R82 to R86, decodes to its row. (3) One step on the vectors of spec/95_test_vectors.md (their ids are in the
comments; expected values are the vectors' or the source's examples). (4) Witnesses of the hypotheses of the statements. -/

namespace Sys2Proof.Tests

open Sys2Proof Sys2Proof.Machine

/-! ### Well-formedness -/

/-- The empty string is no instruction. -/
theorem test_wf_empty : wellFormedBytes [] = false := by decide

/-- JMP without its third byte. -/
theorem test_wf_short : wellFormedBytes [0xC3, 0x00] = false := by decide

/-- NOP with a byte too many. -/
theorem test_wf_long : wellFormedBytes [0x00, 0x00] = false := by decide

theorem test_wf_jmp : wellFormedBytes [0xC3, 0x00, 0x10] = true := by decide

/-- The decoder refuses by name: nothing, and an opcode without its operand bytes. -/
theorem test_decode_empty : decode [] = .error .noBytes := by decide

theorem test_decode_short : decode [0xC3, 0x00] = .error (.missingOperand 0xC3) := by decide

/-- A launch that ends at 0xFFFF is loadable, one that ends a byte further is not (70_reset R272). -/
theorem test_launch_fits : Launch.wellFormed ⟨0xFFFE, [1, 2]⟩ = true := by decide

theorem test_launch_too_long : Launch.wellFormed ⟨0xFFFF, [1, 2]⟩ = false := by decide

/-! ### Decoding -/

/-- What the whole byte string decodes to. -/
def whole (bytes : List Byte) : Option Instr :=
  match decode bytes with
  | .ok (i, []) => some i
  | _ => none

/-- One-byte instructions. -/
def ones (ops : List Byte) : List (Option Instr) := ops.map (fun op => whole [op])

/-- Two-byte instructions, with 0xA5 as `d8`. -/
def twos (ops : List Byte) : List (Option Instr) := ops.map (fun op => whole [op, 0xA5])

/-- Three-byte instructions, with 0x34, 0x12 as the bytes of 0x1234 (R86). -/
def threes (ops : List Byte) : List (Option Instr) := ops.map (fun op => whole [op, 0x34, 0x12])

/-- The instructions themselves. -/
def are (is : List Instr) : List (Option Instr) := is.map some

/-! `01 ddd sss`: MOV r,r; code 110 is M; 01110110 is HLT (R82). -/

theorem test_decode_mov_b : ones [
    0b01000000, 0b01000001, 0b01000010, 0b01000011, 0b01000100, 0b01000101, 0b01000110, 0b01000111]
  = are [
    .movBB, .movBC, .movBD, .movBE, .movBH, .movBL, .movBM, .movBA] := by decide

theorem test_decode_mov_c : ones [
    0b01001000, 0b01001001, 0b01001010, 0b01001011, 0b01001100, 0b01001101, 0b01001110, 0b01001111]
  = are [
    .movCB, .movCC, .movCD, .movCE, .movCH, .movCL, .movCM, .movCA] := by decide

theorem test_decode_mov_d : ones [
    0b01010000, 0b01010001, 0b01010010, 0b01010011, 0b01010100, 0b01010101, 0b01010110, 0b01010111]
  = are [
    .movDB, .movDC, .movDD, .movDE, .movDH, .movDL, .movDM, .movDA] := by decide

theorem test_decode_mov_e : ones [
    0b01011000, 0b01011001, 0b01011010, 0b01011011, 0b01011100, 0b01011101, 0b01011110, 0b01011111]
  = are [
    .movEB, .movEC, .movED, .movEE, .movEH, .movEL, .movEM, .movEA] := by decide

theorem test_decode_mov_h : ones [
    0b01100000, 0b01100001, 0b01100010, 0b01100011, 0b01100100, 0b01100101, 0b01100110, 0b01100111]
  = are [
    .movHB, .movHC, .movHD, .movHE, .movHH, .movHL, .movHM, .movHA] := by decide

theorem test_decode_mov_l : ones [
    0b01101000, 0b01101001, 0b01101010, 0b01101011, 0b01101100, 0b01101101, 0b01101110, 0b01101111]
  = are [
    .movLB, .movLC, .movLD, .movLE, .movLH, .movLL, .movLM, .movLA] := by decide

theorem test_decode_mov_m : ones [
    0b01110000, 0b01110001, 0b01110010, 0b01110011, 0b01110100, 0b01110101, 0b01110110, 0b01110111]
  = are [
    .movMB, .movMC, .movMD, .movME, .movMH, .movML, .hlt, .movMA] := by decide

theorem test_decode_mov_a : ones [
    0b01111000, 0b01111001, 0b01111010, 0b01111011, 0b01111100, 0b01111101, 0b01111110, 0b01111111]
  = are [
    .movAB, .movAC, .movAD, .movAE, .movAH, .movAL, .movAM, .movAA] := by decide

/-! `10 ooo sss`: the register ALU (R85). -/

theorem test_decode_add : ones [
    0b10000000, 0b10000001, 0b10000010, 0b10000011, 0b10000100, 0b10000101, 0b10000110, 0b10000111]
  = are [
    .addB, .addC, .addD, .addE, .addH, .addL, .addM, .addA] := by decide

theorem test_decode_adc : ones [
    0b10001000, 0b10001001, 0b10001010, 0b10001011, 0b10001100, 0b10001101, 0b10001110, 0b10001111]
  = are [
    .adcB, .adcC, .adcD, .adcE, .adcH, .adcL, .adcM, .adcA] := by decide

theorem test_decode_sub : ones [
    0b10010000, 0b10010001, 0b10010010, 0b10010011, 0b10010100, 0b10010101, 0b10010110, 0b10010111]
  = are [
    .subB, .subC, .subD, .subE, .subH, .subL, .subM, .subA] := by decide

theorem test_decode_sbb : ones [
    0b10011000, 0b10011001, 0b10011010, 0b10011011, 0b10011100, 0b10011101, 0b10011110, 0b10011111]
  = are [
    .sbbB, .sbbC, .sbbD, .sbbE, .sbbH, .sbbL, .sbbM, .sbbA] := by decide

theorem test_decode_ana : ones [
    0b10100000, 0b10100001, 0b10100010, 0b10100011, 0b10100100, 0b10100101, 0b10100110, 0b10100111]
  = are [
    .anaB, .anaC, .anaD, .anaE, .anaH, .anaL, .anaM, .anaA] := by decide

theorem test_decode_xra : ones [
    0b10101000, 0b10101001, 0b10101010, 0b10101011, 0b10101100, 0b10101101, 0b10101110, 0b10101111]
  = are [
    .xraB, .xraC, .xraD, .xraE, .xraH, .xraL, .xraM, .xraA] := by decide

theorem test_decode_ora : ones [
    0b10110000, 0b10110001, 0b10110010, 0b10110011, 0b10110100, 0b10110101, 0b10110110, 0b10110111]
  = are [
    .oraB, .oraC, .oraD, .oraE, .oraH, .oraL, .oraM, .oraA] := by decide

theorem test_decode_cmp : ones [
    0b10111000, 0b10111001, 0b10111010, 0b10111011, 0b10111100, 0b10111101, 0b10111110, 0b10111111]
  = are [
    .cmpB, .cmpC, .cmpD, .cmpE, .cmpH, .cmpL, .cmpM, .cmpA] := by decide

/-! `00 rrr 100/101/110`: INR, DCR, MVI (R82); `00 pp xxxx`: LXI, INX, DCX, DAD, LDAX, STAX (R83). -/

theorem test_decode_inr : ones [
    0b00000100, 0b00001100, 0b00010100, 0b00011100, 0b00100100, 0b00101100, 0b00110100, 0b00111100]
  = are [
    .inrB, .inrC, .inrD, .inrE, .inrH, .inrL, .inrM, .inrA] := by decide

theorem test_decode_dcr : ones [
    0b00000101, 0b00001101, 0b00010101, 0b00011101, 0b00100101, 0b00101101, 0b00110101, 0b00111101]
  = are [
    .dcrB, .dcrC, .dcrD, .dcrE, .dcrH, .dcrL, .dcrM, .dcrA] := by decide

theorem test_decode_mvi : twos [
    0b00000110, 0b00001110, 0b00010110, 0b00011110, 0b00100110, 0b00101110, 0b00110110, 0b00111110]
  = are [
    .mviB 0xA5, .mviC 0xA5, .mviD 0xA5, .mviE 0xA5, .mviH 0xA5, .mviL 0xA5, .mviM 0xA5, .mviA 0xA5] := by decide

theorem test_decode_lxi : threes [
    0b00000001, 0b00010001, 0b00100001, 0b00110001]
  = are [
    .lxiB 0x1234, .lxiD 0x1234, .lxiH 0x1234, .lxiSp 0x1234] := by decide

theorem test_decode_inx_dcx_dad : ones [
    0b00000011, 0b00010011, 0b00100011, 0b00110011, 0b00001011, 0b00011011, 0b00101011, 0b00111011, 0b00001001,
      0b00011001, 0b00101001, 0b00111001]
  = are [
    .inxB, .inxD, .inxH, .inxSp, .dcxB, .dcxD, .dcxH, .dcxSp, .dadB, .dadD, .dadH, .dadSp] := by decide

theorem test_decode_ldax_stax : ones [
    0b00001010, 0b00011010, 0b00000010, 0b00010010]
  = are [
    .ldaxB, .ldaxD, .staxB, .staxD] := by decide

theorem test_decode_direct : threes [
    0b00110010, 0b00111010, 0b00100010, 0b00101010]
  = are [
    .sta 0x1234, .lda 0x1234, .shld 0x1234, .lhld 0x1234] := by decide

theorem test_decode_accumulator : ones [
    0b00000111, 0b00001111, 0b00010111, 0b00011111, 0b00100111, 0b00101111, 0b00110111, 0b00111111]
  = are [
    .rlc, .rrc, .ral, .rar, .daa, .cma, .stc, .cmc] := by decide

/-! `11 ooo 110`: the immediate ALU (R85); `11 ccc 000/010/100`: Rcc, Jcc, Ccc (R84); `11 nnn 111`: RST (R82). -/

theorem test_decode_alu_immediate : twos [
    0b11000110, 0b11001110, 0b11010110, 0b11011110, 0b11100110, 0b11101110, 0b11110110, 0b11111110]
  = are [
    .adi 0xA5, .aci 0xA5, .sui 0xA5, .sbi 0xA5, .ani 0xA5, .xri 0xA5, .ori 0xA5, .cpi 0xA5] := by decide

theorem test_decode_jcc : threes [
    0b11000010, 0b11001010, 0b11010010, 0b11011010, 0b11100010, 0b11101010, 0b11110010, 0b11111010, 0b11000011]
  = are [
    .jnz 0x1234, .jz 0x1234, .jnc 0x1234, .jc 0x1234, .jpo 0x1234, .jpe 0x1234, .jp 0x1234, .jm 0x1234,
      .jmp 0x1234] := by decide

theorem test_decode_ccc : threes [
    0b11000100, 0b11001100, 0b11010100, 0b11011100, 0b11100100, 0b11101100, 0b11110100, 0b11111100, 0b11001101]
  = are [
    .cnz 0x1234, .cz 0x1234, .cnc 0x1234, .cc 0x1234, .cpo 0x1234, .cpe 0x1234, .cp 0x1234, .cm 0x1234,
      .call 0x1234] := by decide

theorem test_decode_rcc : ones [
    0b11000000, 0b11001000, 0b11010000, 0b11011000, 0b11100000, 0b11101000, 0b11110000, 0b11111000, 0b11001001,
      0b11101001]
  = are [
    .rnz, .rz, .rnc, .rc, .rpo, .rpe, .rp, .rm, .ret, .pchl] := by decide

theorem test_decode_rst : ones [
    0b11000111, 0b11001111, 0b11010111, 0b11011111, 0b11100111, 0b11101111, 0b11110111, 0b11111111]
  = are [
    .rst0, .rst1, .rst2, .rst3, .rst4, .rst5, .rst6, .rst7] := by decide

theorem test_decode_push_pop : ones [
    0b11000101, 0b11010101, 0b11100101, 0b11110101, 0b11000001, 0b11010001, 0b11100001, 0b11110001]
  = are [
    .pushB, .pushD, .pushH, .pushPsw, .popB, .popD, .popH, .popPsw] := by decide

theorem test_decode_ports : twos [
    0b11011011, 0b11010011]
  = are [
    .inPort 0xA5, .outPort 0xA5] := by decide

theorem test_decode_control : ones [
    0b00000000, 0b11111011, 0b11110011, 0b11100011, 0b11111001, 0b11101011]
  = are [
    .nop, .ei, .di, .xthl, .sphl, .xchg] := by decide

/-- The twelve undefined bytes (R88), none of them a neighbour of NOP, JMP, RET or CALL. -/
theorem test_decode_undefined : ones [
    0b00001000, 0b00010000, 0b00011000, 0b00100000, 0b00101000, 0b00110000, 0b00111000, 0b11001011, 0b11011001,
      0b11011101, 0b11101101, 0b11111101]
  = are [
    .undef08, .undef10, .undef18, .undef20, .undef28, .undef30, .undef38, .undefCB, .undefD9, .undefDD,
      .undefED, .undefFD] := by decide

/-- The row bits as the host numbers them: JMP 0x1000 is 0x1000C3 (S10 of the vectors), MVI M,0xFF is 0xFF36 (T8). -/
theorem test_table_word_jmp : decodeTableWord 24 0x1000C3 = some (.jmp 0x1000) := by decide

theorem test_table_word_mvi : decodeTableWord 16 0xFF36 = some (.mviM 0xFF) := by decide

/-! ### One step, on the vectors -/

/-- A start state: the reset state with `f`, the bytes at `org`, PC = `org`. -/
def start (org : Word) (bytes : List Byte) (f : State → State) : State :=
  ((f State.reset).writeImage org.toNat bytes).setPc org

/-- The state after one step from it. -/
def after (org : Word) (bytes : List Byte) (f : State → State) : State := stepState (start org bytes f)

/-- Nothing but the reset values. -/
def plain (s : State) : State := s

/-- A register given. -/
def withR (r : Reg) (v : Byte) (s : State) : State := s.setReg r v

/-- A pair given. -/
def withP (p : Pair) (v : Word) (s : State) : State := s.setPair p v

/-- SP given. -/
def withSp (v : Word) (s : State) : State := s.setSp v

/-- A byte of memory given. -/
def withM (a : Word) (v : Byte) (s : State) : State := s.store a v

/-- The flags given, in the order Z S P CY AC of the vectors. -/
def withF (f : Flags) (s : State) : State := s.setFlags f

/-- No flag set. -/
def f0 : Flags := ⟨false, false, false, false, false⟩

/-- A, the flags and PC. -/
def accFlags (s : State) : Byte × Flags × Word := (s.reg .a, s.flags, s.pc)

/-! Data transfer -/

/-- T1 -/
theorem test_mov_b_a :
    (fun t => (t.reg .b, t.reg .a, t.pc)) (after 0x0100 [0x47] (withR .a 0x5A))
      = (0x5A, 0x5A, 0x0101) := by decide

/-- T5: the address is HL before the write -/
theorem test_mov_h_m :
    (fun t => (t.reg .h, t.reg .l)) (after 0x0100 [0x66] (withP .hl 0x2000 ∘ withM 0x2000 0x99))
      = (0x99, 0x00) := by decide

/-- T6 -/
theorem test_mov_m_h :
    (fun t => (t.load 0x2BE9, t.reg .h)) (after 0x0100 [0x74] (withP .hl 0x2BE9))
      = (0x2B, 0x2B) := by decide

/-- T9: the fetch wraps -/
theorem test_mvi_at_top :
    (fun t => (t.reg .a, t.pc)) (after 0xFFFF [0x3E, 0x12] plain)
      = (0x12, 0x0001) := by decide

/-- T8 -/
theorem test_mvi_m :
    (fun t => (t.load 0x3CF4, t.pc)) (after 0x0100 [0x36, 0xFF] (withP .hl 0x3CF4))
      = (0xFF, 0x0102) := by decide

/-- T12 -/
theorem test_lxi_b_at_top :
    (fun t => (t.reg .b, t.reg .c, t.pc)) (after 0xFFFE [0x01, 0xEF, 0xBE] plain)
      = (0xBE, 0xEF, 0x0001) := by decide

/-- T11 -/
theorem test_lxi_sp :
    (fun t => (t.sp, t.pc)) (after 0x0100 [0x31, 0xBC, 0x3A] plain)
      = (0x3ABC, 0x0103) := by decide

/-- T13 -/
theorem test_lda :
    (fun t => t.reg .a) (after 0x0100 [0x3A, 0x00, 0x03] (withM 0x0300 0x7E))
      = 0x7E := by decide

/-- T14 -/
theorem test_sta :
    (fun t => t.load 0x05B3) (after 0x0100 [0x32, 0xB3, 0x05] (withR .a 0xC4))
      = 0xC4 := by decide

/-- T16 -/
theorem test_lhld_wraps :
    (fun t => (t.reg .h, t.reg .l)) (after 0x0100 [0x2A, 0xFF, 0xFF] (withM 0xFFFF 0x11 ∘ withM 0x0000 0x22))
      = (0x22, 0x11) := by decide

/-- T18 -/
theorem test_shld_wraps :
    (fun t => (t.load 0x0000, t.load 0xFFFF)) (after 0x0200 [0x22, 0xFF, 0xFF] (withP .hl 0xAE29))
      = (0xAE, 0x29) := by decide

/-- T19 -/
theorem test_ldax_d :
    (fun t => t.reg .a) (after 0x0100 [0x1A] (withP .de 0x938B ∘ withM 0x938B 0x42))
      = 0x42 := by decide

/-- T21 -/
theorem test_stax_b :
    (fun t => t.load 0x3F16) (after 0x0100 [0x02] (withR .a 0x9C ∘ withP .bc 0x3F16))
      = 0x9C := by decide

/-- T23 -/
theorem test_xchg :
    (fun t => (t.pair .de, t.pair .hl)) (after 0x0100 [0xEB] (withP .de 0x3355 ∘ withP .hl 0x00FF))
      = (0x00FF, 0x3355) := by decide

/-! Arithmetic -/

/-- A1 -/
theorem test_add_b :
    accFlags (after 0x0100 [0x80] (withR .a 0x2E ∘ withR .b 0x6C))
      = (0x9A, ⟨false, true, true, false, true⟩, 0x0101) := by decide

/-- A2, S4: the source is the destination -/
theorem test_add_a_doubles :
    accFlags (after 0x0100 [0x87] (withR .a 0x80))
      = (0x00, ⟨true, false, true, true, false⟩, 0x0101) := by decide

/-- A5 -/
theorem test_add_m :
    accFlags (after 0x0100 [0x86] (withR .a 0x10 ∘ withP .hl 0x2000 ∘ withM 0x2000 0xF0))
      = (0x00, ⟨true, false, true, true, false⟩, 0x0101) := by decide

/-- A7 -/
theorem test_adi :
    accFlags (after 0x0100 [0xC6, 0xBE] (withR .a 0x56))
      = (0x14, ⟨false, false, true, true, true⟩, 0x0102) := by decide

/-- A10 -/
theorem test_adc_c :
    accFlags (after 0x0100 [0x89] (withR .a 0x42 ∘ withR .c 0x3D ∘ withF ⟨false, false, false, true, false⟩))
      = (0x80, ⟨false, true, false, false, true⟩, 0x0101) := by decide

/-- A12: the carry comes from 0xFF + 1 -/
theorem test_adc_b_full :
    accFlags (after 0x0100 [0x88] (withR .b 0xFF ∘ withF ⟨false, false, false, true, false⟩))
      = (0x00, ⟨true, false, true, true, true⟩, 0x0101) := by decide

/-- A14 -/
theorem test_aci :
    accFlags (after 0x0100 [0xCE, 0x42] (withR .a 0x14 ∘ withF ⟨false, false, false, true, false⟩))
      = (0x57, f0, 0x0102) := by decide

/-- A15 -/
theorem test_sub_a :
    accFlags (after 0x0100 [0x97] (withR .a 0x3E))
      = (0x00, ⟨true, false, true, false, true⟩, 0x0101) := by decide

/-- A16 -/
theorem test_sub_b_borrows :
    accFlags (after 0x0100 [0x90] (withR .b 0x01))
      = (0xFF, ⟨false, true, true, true, false⟩, 0x0101) := by decide

/-- A20: the carry in is not used -/
theorem test_sui :
    accFlags (after 0x0100 [0xD6, 0x00] (withF ⟨false, false, false, true, false⟩))
      = (0x00, ⟨true, false, true, false, true⟩, 0x0102) := by decide

/-- A21 -/
theorem test_sbb_l :
    accFlags (after 0x0100 [0x9D] (withR .a 0x04 ∘ withR .l 0x02 ∘ withF ⟨false, false, false, true, false⟩))
      = (0x01, ⟨false, false, false, false, true⟩, 0x0101) := by decide

/-- A22: the borrow is taken without wrap-around -/
theorem test_sbb_b_full :
    accFlags (after 0x0100 [0x98] (withR .b 0xFF ∘ withF ⟨false, false, false, true, false⟩))
      = (0x00, ⟨true, false, true, true, false⟩, 0x0101) := by decide

/-- A26 -/
theorem test_sbi :
    accFlags (after 0x0100 [0xDE, 0x01] (withF ⟨false, false, false, true, false⟩))
      = (0xFE, ⟨false, true, false, true, false⟩, 0x0102) := by decide

/-- A27: CY and AC stay -/
theorem test_inr_c :
    (fun t => (t.reg .c, t.flags)) (after 0x0100 [0x0C] (withR .c 0x99 ∘ withF ⟨false, false, false, true, true⟩))
      = (0x9A, ⟨false, true, true, true, true⟩) := by decide

/-- A30 -/
theorem test_inr_m :
    (fun t => (t.load 0x2000, t.flags)) (after 0x0100 [0x34] (withP .hl 0x2000 ∘ withM 0x2000 0x0F))
      = (0x10, f0) := by decide

/-- A31, S8 -/
theorem test_dcr_b :
    (fun t => (t.reg .b, t.reg .c, t.flags)) (after 0x0100 [0x05] (withF ⟨false, false, false, true, false⟩))
      = (0xFF, 0x00, ⟨false, true, true, true, false⟩) := by decide

/-- A34 -/
theorem test_dcr_m :
    (fun t => (t.load 0x3A7C, t.flags)) (after 0x0100 [0x35] (withP .hl 0x3A7C ∘ withM 0x3A7C 0x40))
      = (0x3F, ⟨false, false, true, false, false⟩) := by decide

/-- A35: no flag -/
theorem test_inx_d_carries :
    (fun t => (t.pair .de, t.flags)) (after 0x0100 [0x13] (withP .de 0x38FF ∘ withF ⟨true, false, false, true, false⟩))
      = (0x3900, ⟨true, false, false, true, false⟩) := by decide

/-- A37 -/
theorem test_inx_sp_wraps :
    (fun t => t.sp) (after 0x0100 [0x33] (withSp 0xFFFF))
      = 0x0000 := by decide

/-- A38 -/
theorem test_dcx_h_borrows :
    (fun t => t.pair .hl) (after 0x0100 [0x2B] (withP .hl 0x9800))
      = 0x97FF := by decide

/-- A39 -/
theorem test_dcx_b_wraps :
    (fun t => t.pair .bc) (after 0x0100 [0x0B] plain)
      = 0xFFFF := by decide

/-- A41 -/
theorem test_dad_b :
    (fun t => (t.pair .hl, t.flags)) (after 0x0100 [0x09] (withP .bc 0x339F ∘ withP .hl 0xA17B ∘ withF ⟨false, false, false, true, false⟩))
      = (0xD51A, f0) := by decide

/-- A42: Z is not written -/
theorem test_dad_d_carries :
    (fun t => (t.pair .hl, t.flags)) (after 0x0100 [0x19] (withP .de 0x0001 ∘ withP .hl 0xFFFF))
      = (0x0000, ⟨false, false, false, true, false⟩) := by decide

/-- A45 -/
theorem test_daa :
    accFlags (after 0x0100 [0x27] (withR .a 0x9B))
      = (0x01, ⟨false, false, false, true, true⟩, 0x0101) := by decide

/-- A49 -/
theorem test_daa_keeps_carry :
    accFlags (after 0x0100 [0x27] (withF ⟨false, false, false, true, false⟩))
      = (0x60, ⟨false, false, true, true, false⟩, 0x0101) := by decide

/-! Logical -/

/-- L1 -/
theorem test_ana_c :
    accFlags (after 0x0100 [0xA1] (withR .a 0xFC ∘ withR .c 0x0F ∘ withF ⟨false, false, false, true, true⟩))
      = (0x0C, ⟨false, false, true, false, false⟩, 0x0101) := by decide

/-- L4, S9 -/
theorem test_ani_zero :
    accFlags (after 0x0100 [0xE6, 0x00] (withF ⟨false, false, false, true, true⟩))
      = (0x00, ⟨true, false, true, false, false⟩, 0x0102) := by decide

/-- L6 -/
theorem test_xra_a :
    accFlags (after 0x0100 [0xAF] (withR .a 0x5C ∘ withF ⟨false, true, false, true, true⟩))
      = (0x00, ⟨true, false, true, false, false⟩, 0x0101) := by decide

/-- L9 -/
theorem test_xri :
    accFlags (after 0x0100 [0xEE, 0x81] (withR .a 0x3B))
      = (0xBA, ⟨false, true, false, false, false⟩, 0x0102) := by decide

/-- L12 -/
theorem test_ora_m :
    accFlags (after 0x0100 [0xB6] (withR .a 0x80 ∘ withP .hl 0x2000 ∘ withM 0x2000 0x01))
      = (0x81, ⟨false, true, true, false, false⟩, 0x0101) := by decide

/-- L13 -/
theorem test_ori :
    accFlags (after 0x0100 [0xF6, 0x0F] (withR .a 0xB5))
      = (0xBF, ⟨false, true, false, false, false⟩, 0x0102) := by decide

/-- L15 -/
theorem test_cmp_e :
    accFlags (after 0x0100 [0xBB] (withR .a 0x02 ∘ withR .e 0x05))
      = (0x02, ⟨false, true, false, true, false⟩, 0x0101) := by decide

/-- L21 -/
theorem test_cpi :
    accFlags (after 0x0100 [0xFE, 0x40] (withR .a 0x3F))
      = (0x3F, ⟨false, true, true, true, true⟩, 0x0102) := by decide

/-- L23: only CY -/
theorem test_rlc :
    accFlags (after 0x0100 [0x07] (withR .a 0xF2 ∘ withF ⟨true, false, false, false, false⟩))
      = (0xE5, ⟨true, false, false, true, false⟩, 0x0101) := by decide

/-- L25 -/
theorem test_rrc :
    accFlags (after 0x0100 [0x0F] (withR .a 0xF2 ∘ withF ⟨false, false, false, true, false⟩))
      = (0x79, f0, 0x0101) := by decide

/-- L28 -/
theorem test_ral :
    accFlags (after 0x0100 [0x17] (withF ⟨false, false, false, true, false⟩))
      = (0x01, f0, 0x0101) := by decide

/-- L29 -/
theorem test_rar :
    accFlags (after 0x0100 [0x1F] (withR .a 0x6A ∘ withF ⟨false, false, false, true, false⟩))
      = (0xB5, f0, 0x0101) := by decide

/-- L31 -/
theorem test_cma :
    accFlags (after 0x0100 [0x2F] (withR .a 0x51 ∘ withF ⟨true, false, false, true, false⟩))
      = (0xAE, ⟨true, false, false, true, false⟩, 0x0101) := by decide

/-- L32 -/
theorem test_cmc :
    accFlags (after 0x0100 [0x3F] (withF ⟨false, false, false, true, false⟩))
      = (0x00, f0, 0x0101) := by decide

/-- L34 -/
theorem test_stc :
    accFlags (after 0x0100 [0x37] plain)
      = (0x00, ⟨false, false, false, true, false⟩, 0x0101) := by decide

/-! Control transfer -/

/-- B1, S10 -/
theorem test_jmp :
    (fun t => t.pc) (after 0x0000 [0xC3, 0x00, 0x10] plain)
      = 0x1000 := by decide

/-- B4 -/
theorem test_jnz_not_taken :
    (fun t => t.pc) (after 0x0100 [0xC2, 0x34, 0x12] (withF ⟨true, false, false, false, false⟩))
      = 0x0103 := by decide

/-- B11 -/
theorem test_jm_taken :
    (fun t => t.pc) (after 0x0100 [0xFA, 0x34, 0x12] (withF ⟨false, true, false, false, false⟩))
      = 0x1234 := by decide

/-- B13 -/
theorem test_call :
    (fun t => (t.pc, t.sp, t.load 0x23FF, t.load 0x23FE)) (after 0x0100 [0xCD, 0x00, 0x30] (withSp 0x2400))
      = (0x3000, 0x23FE, 0x01, 0x03) := by decide

/-- B14: SP-1 is 0x0000, SP-2 is 0xFFFF -/
theorem test_call_wraps :
    (fun t => (t.pc, t.sp, t.load 0x0000, t.load 0xFFFF)) (after 0x1234 [0xCD, 0x00, 0x30] (withSp 0x0001))
      = (0x3000, 0xFFFF, 0x12, 0x37) := by decide

/-- B18 -/
theorem test_cnc_not_taken :
    (fun t => (t.pc, t.sp)) (after 0x0100 [0xD4, 0x00, 0x30] (withSp 0x2400 ∘ withF ⟨false, false, false, true, false⟩))
      = (0x0103, 0x2400) := by decide

/-- B19 -/
theorem test_cm_taken :
    (fun t => (t.pc, t.sp, t.load 0x23FF, t.load 0x23FE)) (after 0x0100 [0xFC, 0x00, 0x30] (withSp 0x2400 ∘ withF ⟨false, true, false, false, false⟩))
      = (0x3000, 0x23FE, 0x01, 0x03) := by decide

/-- B22 -/
theorem test_ret_wraps :
    (fun t => (t.pc, t.sp)) (after 0x3000 [0xC9] (withSp 0xFFFF ∘ withM 0xFFFF 0x34 ∘ withM 0x0000 0x12))
      = (0x1234, 0x0001) := by decide

/-- B25 -/
theorem test_rpo_taken :
    (fun t => (t.pc, t.sp)) (after 0x3000 [0xE0] (withSp 0x23FE ∘ withM 0x23FE 0x03 ∘ withM 0x23FF 0x01))
      = (0x0103, 0x2400) := by decide

/-- B24 -/
theorem test_rz_not_taken :
    (fun t => (t.pc, t.sp)) (after 0x3000 [0xC8] (withSp 0x23FE ∘ withM 0x23FE 0x03 ∘ withM 0x23FF 0x01))
      = (0x3001, 0x23FE) := by decide

/-- B26 -/
theorem test_rst_3 :
    (fun t => (t.pc, t.sp, t.load 0x23FF, t.load 0x23FE)) (after 0x1234 [0xDF] (withSp 0x2400))
      = (0x0018, 0x23FE, 0x12, 0x35) := by decide

/-- B29 -/
theorem test_pchl :
    (fun t => t.pc) (after 0x0100 [0xE9] (withP .hl 0x413E))
      = 0x413E := by decide

/-! Stack, input/output, machine control, trap -/

/-- M1 -/
theorem test_push_d :
    (fun t => (t.sp, t.load 0x3A2A, t.load 0x3A2B)) (after 0x0100 [0xD5] (withP .de 0x8F9D ∘ withSp 0x3A2C))
      = (0x3A2A, 0x9D, 0x8F) := by decide

/-- M4 -/
theorem test_push_psw :
    (fun t => (t.sp, t.load 0x5028, t.load 0x5029)) (after 0x0100 [0xF5] (withR .a 0x1F ∘ withF ⟨true, false, true, true, false⟩ ∘ withSp 0x502A))
      = (0x5028, 0x0D, 0x1F) := by decide

/-- M7 -/
theorem test_pop_h :
    (fun t => (t.pair .hl, t.sp)) (after 0x0100 [0xE1] (withSp 0x1239 ∘ withM 0x1239 0x3D ∘ withM 0x123A 0x93))
      = (0x933D, 0x123B) := by decide

/-- M10: bits 7:5 are ignored -/
theorem test_pop_psw :
    accFlags (after 0x0100 [0xF1] (withSp 0x2C00 ∘ withF ⟨true, false, false, true, false⟩ ∘ withM 0x2C00 0xE0 ∘ withM 0x2C01 0x80))
      = (0x80, f0, 0x0101) := by decide

/-- M12 -/
theorem test_xthl :
    (fun t => (t.pair .hl, t.load 0x10AD, t.load 0x10AE, t.sp)) (after 0x0100 [0xE3] (withSp 0x10AD ∘ withP .hl 0x0B3C ∘ withM 0x10AD 0xF0 ∘ withM 0x10AE 0x0D))
      = (0x0DF0, 0x3C, 0x0B, 0x10AD) := by decide

/-- M14 -/
theorem test_sphl :
    (fun t => (t.sp, t.pc)) (after 0x0100 [0xF9] (withP .hl 0x506C))
      = (0x506C, 0x0101) := by decide

/-- M15 -/
theorem test_in :
    accFlags (after 0x0100 [0xDB, 0x01] (withR .a 0x77))
      = (0x77, f0, 0x0102) := by decide

/-- M16 -/
theorem test_out :
    accFlags (after 0x0100 [0xD3, 0x02] (withR .a 0x77))
      = (0x77, f0, 0x0102) := by decide

/-- M17 -/
theorem test_ei :
    (fun t => (t.inte, t.pc)) (after 0x0100 [0xFB] plain)
      = (true, 0x0101) := by decide

/-- M19 -/
theorem test_di :
    (fun t => (t.inte, t.pc)) (after 0x0100 [0xF3] (fun s => s.setInte true))
      = (false, 0x0101) := by decide

/-- M21 -/
theorem test_nop_at_top :
    (fun t => t.pc) (after 0xFFFF [0x00] plain)
      = 0x0000 := by decide

/-- M22 -/
theorem test_hlt :
    (fun t => (t.run, t.pc)) (after 0x0100 [0x76] plain)
      = (.halted, 0x0101) := by decide

/-- M24 -/
theorem test_undefined_ed :
    (fun t => (t.run, t.trapOpcode, t.trapPc, t.pc, t.sp)) (after 0xFFFF [0xED] plain)
      = (.trapped, 0xED, 0xFFFF, 0x0000, 0x0000) := by decide

/-- M25: one byte, whatever follows -/
theorem test_undefined_cb :
    (fun t => (t.run, t.trapOpcode, t.trapPc, t.pc, t.sp)) (after 0x0100 [0xCB, 0x34, 0x12] plain)
      = (.trapped, 0xCB, 0x0100, 0x0101, 0x0000) := by decide

/-- M26: nothing is pushed -/
theorem test_undefined_dd :
    (fun t => (t.run, t.trapOpcode, t.trapPc, t.pc, t.sp)) (after 0x0100 [0xDD, 0x00, 0x30] (withSp 0x2400))
      = (.trapped, 0xDD, 0x0100, 0x0101, 0x2400) := by decide

/-- B17, B18, B23, B24: the cycles of a conditional call and return, by the flags before it. -/
theorem test_cycles_conditional :
    (stepCycles (start 0x0100 [0xD4, 0x00, 0x30] plain), stepCycles (start 0x0100 [0xD4, 0x00, 0x30] (withF ⟨false, false,
      false, true, false⟩)), stepCycles (start 0x3000 [0xC8] (withF ⟨true, false, false, false, false⟩)),
      stepCycles (start 0x3000 [0xC8] plain)) = (17, 11, 11, 5) := by decide

/-! ### The flag functions -/

/-- S1, S2, F1 (41_arithmetic R140). -/
theorem test_parity8 :
    [0x00, 0x01, 0x03, 0x07, 0x7F, 0x80, 0xFE, 0xFF].map parity8
      = [true, false, true, false, false, false, false, true] := by decide

/-- F5: the intermediate of 0x00 - 0x01. -/
theorem test_flagsArith_borrow : flagsArith 0xFFFF f0 = ⟨false, true, true, true, false⟩ := by decide

/-- F9, F10 (R166). -/
theorem test_auxiliary_carry :
    ([acAdd 0x0F 0x01 false, acAdd 0x0F 0x00 true, acAdd 0x08 0x07 false],
      [acSub 0x00 0x00 false, acSub 0x00 0x01 false, acSub 0x10 0x01 false, acSub 0x04 0x02 true, acSub 0x00 0x00 true])
      = ([true, true, false], [true, false, false, true, false]) := by decide

/-- F7 and F8 (10_state R29). -/
theorem test_flag_byte :
    (packFlags ⟨true, false, false, false, false⟩, packFlags ⟨false, false, false, true, false⟩,
      packFlags ⟨true, true, true, true, true⟩, unpackFlags 0xE0, unpackFlags 0x15)
      = (0x01, 0x08, 0x1F, f0, ⟨true, false, true, false, true⟩) := by decide

/-! ### Witnesses: the hypotheses of the statements are met, at their boundaries -/

/-- BootPlacesImage: an image that ends exactly at 0xFFFF, an index of it, an address below it; one byte more is too many. -/
theorem witness_BootPlacesImage_fits :
    (⟨0xFFFE, [0x76, 0x01]⟩ : Launch).offset + (⟨0xFFFE, [0x76, 0x01]⟩ : Launch).image.length ≤ 65536 ∧
    1 < (⟨0xFFFE, [0x76, 0x01]⟩ : Launch).image.length ∧
    (0xFFFD#16).toNat < (⟨0xFFFE, [0x76, 0x01]⟩ : Launch).offset := by decide

theorem witness_BootPlacesImage_low :
    (⟨0, [0x76]⟩ : Launch).offset + (⟨0, [0x76]⟩ : Launch).image.length ≤ 65536 ∧
    (⟨0, [0x76]⟩ : Launch).offset + (⟨0, [0x76]⟩ : Launch).image.length ≤ (0x0001#16).toNat := by decide

theorem witness_BootPlacesImage_refused :
    65536 < (⟨0xFFFF, [0x76, 0x01]⟩ : Launch).offset + (⟨0xFFFF, [0x76, 0x01]⟩ : Launch).image.length := by decide

/-- StepRunsDecoded: a running state whose bytes decode, at the top of memory. -/
theorem witness_StepRunsDecoded :
    decode (fetchBytes (start 0xFFFF [0x3E, 0x12] plain)) = .ok (.mviA 0x12, [0x00]) ∧
    (start 0xFFFF [0x3E, 0x12] plain).run = .running := by decide

/-- TerminalStatesAbsorb: a halted and a trapped state, each the end of one step. -/
theorem witness_TerminalStatesAbsorb_halted :
    (after 0x0100 [0x76] plain).run ≠ .running ∧ (after 0x0100 [0x76] plain).run = .halted := by decide

theorem witness_TerminalStatesAbsorb_trapped :
    (after 0x0100 [0xED] plain).run ≠ .running ∧ (after 0x0100 [0xED] plain).run = .trapped := by decide

/-- OutcomeOfAStep: one running state for each of its clauses. -/
theorem witness_OutcomeOfAStep_trap :
    (start 0x0100 [0x08] plain).run = .running ∧ fetchInstr (start 0x0100 [0x08] plain) = Instr.undef .x08 := by decide

theorem witness_OutcomeOfAStep_halt :
    (start 0x0100 [0x76] plain).run = .running ∧ fetchInstr (start 0x0100 [0x76] plain) = .hlt := by decide

/-- An instruction is undefined only as one of the twelve. -/
theorem not_undefined {i : Instr} (h : ∀ u : UndefOp, i ≠ Instr.undef u) : ¬ isUndefined i := fun ⟨u, e⟩ => h u e

theorem witness_OutcomeOfAStep_ok :
    State.reset.run = .running ∧ fetchInstr State.reset ≠ .hlt ∧ ¬ isUndefined (fetchInstr State.reset) :=
  ⟨rfl, by decide, not_undefined fun u => by cases u <;> decide⟩

/-- StepKeepsInv: a step that goes on, a step that halts, a step that traps, and a step of a halted core. -/
theorem witness_StepKeepsInv : Inv State.reset ∧ step State.reset = .next (stepState State.reset) :=
  ⟨⟨rfl, by decide, by decide⟩, rfl⟩

theorem witness_StepKeepsInv_hlt :
    Inv (start 0x0100 [0x76] plain) ∧
    step (start 0x0100 [0x76] plain) = .next (after 0x0100 [0x76] plain) ∧
    (after 0x0100 [0x76] plain).run = .halted :=
  ⟨⟨rfl, by decide, by decide⟩, rfl, rfl⟩

theorem witness_StepKeepsInv_undefined :
    Inv (start 0xFFFF [0xED] plain) ∧
    step (start 0xFFFF [0xED] plain) = .next (after 0xFFFF [0xED] plain) ∧
    (after 0xFFFF [0xED] plain).run = .trapped :=
  ⟨⟨rfl, by decide, by decide⟩, rfl, rfl⟩

theorem witness_StepKeepsInv_terminal :
    Inv (after 0x0100 [0x76] plain) ∧
    step (after 0x0100 [0x76] plain) = .next (after 0x0100 [0x76] plain) ∧
    (after 0x0100 [0x76] plain).run = .halted :=
  ⟨⟨rfl, by decide, by decide⟩, rfl, rfl⟩

/-- StoreSeenByNextFetch: STA onto the byte right after itself. -/
theorem witness_StoreSeenByNextFetch :
    (start 0x0100 [0x32, 0x03, 0x01] (withR .a 0x76)).run = .running ∧
    fetchInstr (start 0x0100 [0x32, 0x03, 0x01] (withR .a 0x76)) = .sta 0x0103 := by decide

/-- EncodeOfDecode: a string that decodes, with a byte left over. -/
theorem witness_EncodeOfDecode : decode [0xC3, 0x00, 0x10, 0x55] = .ok (.jmp 0x1000, [0x55]) := by decide

/-- LengthOfOpcode: exactly enough bytes, and one too few. -/
theorem witness_LengthOfOpcode :
    opcodeLength 0xCD ≤ [(0x00 : Byte), 0x30].length + 1 ∧ [(0x00 : Byte)].length + 1 < opcodeLength 0xCD := by decide

/-- UndefinedOpcodesTrap: an undefined byte, and one that is defined. -/
theorem witness_UndefinedOpcodesTrap :
    (start 0xFFFF [0xFD] plain).run = .running ∧
    (start 0xFFFF [0xFD] plain).load (start 0xFFFF [0xFD] plain).pc
      ∈ ([0x08, 0x10, 0x18, 0x20, 0x28, 0x30, 0x38, 0xCB, 0xD9, 0xDD, 0xED, 0xFD] : List Byte) ∧
    State.reset.run = .running ∧
    State.reset.load State.reset.pc
      ∉ ([0x08, 0x10, 0x18, 0x20, 0x28, 0x30, 0x38, 0xCB, 0xD9, 0xDD, 0xED, 0xFD] : List Byte) := by decide

/-- AuxiliaryCarry: an instruction that is neither DAA nor PUSH PSW, and is one that writes AC. -/
theorem witness_AuxiliaryCarry : Instr.addB ≠ .daa ∧ Instr.addB ≠ .pushPsw := by decide

/-- MachineControl: a running core at an HLT in the last byte of memory. -/
theorem witness_MachineControl :
    (start 0xFFFF [0x76] plain).run = .running ∧ (start 0xFFFF [0x76] plain).load (start 0xFFFF [0x76] plain).pc = 0x76 := by
  decide

/-- BytesReadBack: another address. -/
theorem witness_BytesReadBack : (0x0000 : Word) ≠ 0xFFFF := by decide

/-- WordsAreLittleEndian and StackRoundTrip: an address apart from both bytes, next to the wrap. -/
theorem witness_WordsAreLittleEndian : (0x0001 : Word) ≠ 0xFFFF ∧ (0x0001 : Word) ≠ 0xFFFF + 1 := by decide

theorem witness_StackRoundTrip :
    (0x0000 : Word) ≠ State.reset.sp - 1 ∧ (0x0000 : Word) ≠ State.reset.sp - 2 := by decide

/-- Frames: a register and an address outside what the instruction writes. -/
theorem witness_frames : Reg.b ∉ [Reg.a] ∧ Reg.d ∉ [pairHi .hl, pairLo .hl] ∧ (0x0001 : Word) ∉ [(0xFFFF : Word), 0x0000] := by
  decide

/-- ArithmeticIdentities (d): a byte whose Z is set. -/
theorem witness_ArithmeticIdentities_zero : (flagsZSP 0 f0).z = true := by decide

/-- PairsCountModulo65536: an operand other than SP. -/
theorem witness_PairsCountModulo65536 : Rp.pair .bc ≠ Rp.sp := by decide

/-- Jumps, CallsPushTheReturnAddress, ReturnsPopThePc: each condition both ways. -/
theorem witness_conditions_false :
    condHolds .z f0 = false ∧ condHolds .c f0 = false ∧ condHolds .pe f0 = false ∧ condHolds .m f0 = false := by decide

theorem witness_conditions_true :
    condHolds .nz f0 = true ∧ condHolds .nc f0 = true ∧ condHolds .po f0 = true ∧ condHolds .p f0 = true := by decide

/-- ReturnsPopThePc, the round trip: the state the CALL left, with other registers and another byte of memory changed. -/
theorem witness_ReturnsPopThePc_roundTrip :
    exec (.call 0x3000) State.reset = .next (callTo 0x3000 State.reset) ∧
    (((callTo 0x3000 State.reset).setReg .b 0x55).store 0x2000 0x11).sp = (callTo 0x3000 State.reset).sp ∧
    (((callTo 0x3000 State.reset).setReg .b 0x55).store 0x2000 0x11).load (callTo 0x3000 State.reset).sp
      = (callTo 0x3000 State.reset).load (callTo 0x3000 State.reset).sp ∧
    (((callTo 0x3000 State.reset).setReg .b 0x55).store 0x2000 0x11).load ((callTo 0x3000 State.reset).sp + 1)
      = (callTo 0x3000 State.reset).load ((callTo 0x3000 State.reset).sp + 1) :=
  ⟨rfl, by decide, by decide, by decide⟩

/-- PcAfterAStep: a running state for each of its clauses. -/
theorem witness_PcAfterAStep_absolute :
    (start 0x0100 [0xC3, 0x00, 0x10] plain).run = .running ∧
    fetchInstr (start 0x0100 [0xC3, 0x00, 0x10] plain) = .jmp 0x1000 ∧
    fetchInstr (start 0xFFFD [0xCD, 0x00, 0x30] plain) = .call 0x3000 := by decide

theorem witness_PcAfterAStep_conditional :
    fetchInstr (start 0xFFFE [0xDA, 0x34, 0x12] plain) = Instr.jcc .c 0x1234 ∧
    fetchInstr (start 0x0100 [0xD4, 0x00, 0x30] plain) = Instr.ccc .nc 0x3000 ∧
    fetchInstr (start 0x3000 [0xC8] plain) = Instr.rcc .z := by decide

theorem witness_PcAfterAStep_others :
    fetchInstr (start 0x3000 [0xC9] plain) = .ret ∧ fetchInstr (start 0x1234 [0xDF] plain) = Instr.rst 3 ∧
    fetchInstr (start 0x0100 [0xE9] plain) = .pchl ∧ fetchInstr (start 0x0100 [0x76] plain) = .hlt := by decide

theorem witness_PcAfterAStep_undefined : isUndefined (fetchInstr (start 0xFFFF [0xED] plain)) := ⟨.xED, by decide⟩

theorem witness_PcAfterAStep_straight : ¬ redirects .nop := by
  intro h
  rcases h with ⟨_, h | h⟩ | ⟨cond, _, h | h⟩ | h | ⟨cond, h⟩ | ⟨n, h⟩ | h
  · cases h
  · cases h
  · cases cond <;> cases h
  · cases cond <;> cases h
  · cases h
  · cases cond <;> cases h
  · revert h
    induction n using forall_rst <;> exact fun h => by cases h
  · cases h

/-- FlagDiscipline: a member of each group, and an instruction outside all of them. -/
theorem witness_FlagDiscipline_groups :
    isLogic (.ani 0x0F) ∧ isIncDec .dcrM ∧ writesCarryOnly .dadSp ∧ writesFiveFlags .cmpM :=
  ⟨.inl (.inr (.inr ⟨0x0F, rfl⟩)), .inr (.inr rfl), .inl ⟨.sp, rfl⟩, .inr (.inr (.inr (.inr (.inr (.inl rfl)))))⟩

/-- NOP is an instruction of no operation of the ALU. -/
theorem nop_not_alu (op : AluOp) : ¬ isAlu op .nop := by
  rintro (⟨r, h⟩ | h | ⟨d8, h⟩)
  · cases op <;> cases r <;> cases h
  · cases op <;> cases h
  · cases op <;> cases h

theorem witness_FlagDiscipline_untouched :
    ¬ (writesFiveFlags .nop ∨ isLogic .nop ∨ isIncDec .nop ∨ writesCarryOnly .nop ∨ Instr.nop = .cmc ∨ Instr.nop = .stc ∨
      Instr.nop = .daa ∨ Instr.nop = .popPsw) := by
  rintro ((h | h | h | h | h) | (h | h | h) | (⟨r, h | h⟩ | h | h) | (⟨rp, h⟩ | h | h | h | h) | h | h | h | h)
  all_goals first
    | exact absurd h (nop_not_alu _)
    | cases h
    | (cases r <;> cases h)
    | (rcases rp with p | _ <;> [(cases p <;> cases h); cases h])

/-- ControlStateWriters and SpAndMemoryWriters: an instruction that writes none of it. -/
theorem witness_ControlStateWriters :
    Instr.nop ≠ .ei ∧ Instr.nop ≠ .di ∧ Instr.nop ≠ .hlt ∧ ¬ isUndefined .nop :=
  ⟨by decide, by decide, by decide, not_undefined fun u => by cases u <;> decide⟩

theorem witness_SpAndMemoryWriters_sp : ¬ writesSp .nop := by
  rintro (⟨_, h⟩ | h | h | h | ⟨p, h | h⟩ | h | h | ⟨_, h⟩ | ⟨cond, _, h⟩ | h | ⟨cond, h⟩ | ⟨n, h⟩)
  all_goals first
    | cases h
    | (cases p <;> cases h)
    | (cases cond <;> cases h)
    | (revert h; induction n using forall_rst <;> exact fun h => by cases h)

theorem witness_SpAndMemoryWriters_memory : ¬ stores .nop := by
  rintro (⟨r, h⟩ | ⟨_, h⟩ | h | h | ⟨_, h⟩ | ⟨_, h⟩ | ⟨p, h⟩ | ⟨p, h⟩ | h | ⟨_, h⟩ | ⟨cond, _, h⟩ | ⟨n, h⟩ | h)
  all_goals first
    | cases h
    | (cases r <;> cases h)
    | (cases p <;> cases h)
    | (cases cond <;> cases h)
    | (revert h; induction n using forall_rst <;> exact fun h => by cases h)

end Sys2Proof.Tests
end

section
/-! O48. The length of the fetched instruction, what `exec` does to PC, and R26 over a whole step. -/

namespace Sys2Proof

open Sys2Proof.Machine

/-! ### The length of a decoded instruction is that of its opcode byte (30_encoding R94) -/

/-- The operand bytes have no say in the format of an instruction. -/
theorem format_decodeBytes (op b2 b3 : Byte) : (decodeBytes op b2 b3).format = (decodeBytes op 0 0).format := by
  unfold decodeBytes
  generalize op.extractLsb' 0 4 = lo
  split
  case h_1 => unfold gridRow0; split <;> rfl
  case h_2 => unfold gridRow1; split <;> rfl
  case h_3 => unfold gridRow2; split <;> rfl
  case h_4 => unfold gridRow3; split <;> rfl
  case h_13 => unfold gridRowC; split <;> rfl
  case h_14 => unfold gridRowD; split <;> rfl
  case h_15 => unfold gridRowE; split <;> rfl
  case h_16 => unfold gridRowF; split <;> rfl
  all_goals rfl

theorem length_decodeBytes_zero : ∀ op : Byte, (decodeBytes op 0 0).length = opcodeLength op := by decide

theorem length_decodeBytes (op b2 b3 : Byte) : (decodeBytes op b2 b3).length = opcodeLength op := by
  rw [← length_decodeBytes_zero op]
  simp only [Instr.length, format_decodeBytes op b2 b3]

theorem length_fetchInstr (s : State) : (fetchInstr s).length = opcodeLength (s.load s.pc) := length_decodeBytes _ _ _

/-! The lengths R26 names: three bytes for a conditional jump or call, one for the forms without an operand byte. -/

theorem length_jcc (cond : Cond) (addr : Word) : (Instr.jcc cond addr).length = 3 := by cases cond <;> rfl

theorem length_ccc (cond : Cond) (addr : Word) : (Instr.ccc cond addr).length = 3 := by cases cond <;> rfl

theorem length_rcc (cond : Cond) : (Instr.rcc cond).length = 1 := by cases cond <;> rfl

theorem length_undef (u : UndefOp) : (Instr.undef u).length = 1 := by cases u <;> rfl

end Sys2Proof

namespace Sys2Proof.Machine

/-! ### The state after the fetch (30_encoding R90) -/

/-- The fetch advances PC by the length of what it fetched. -/
theorem afterFetch_pc {s : State} {i : Instr} (h : fetchInstr s = i) :
    (afterFetch s).pc = s.pc + BitVec.ofNat 16 i.length := by
  rw [← h, length_fetchInstr]
  rfl

/-! ### What `exec` does to PC -/

section

variable (s : State)

theorem jumpIf_pc (cond : Cond) (addr : Word) :
    (jumpIf cond addr s).pc = if condHolds cond s.flags then addr else s.pc := by
  unfold jumpIf
  split <;> rfl

theorem callIf_pc (cond : Cond) (addr : Word) :
    (callIf cond addr s).pc = if condHolds cond s.flags then addr else s.pc := by
  unfold callIf
  split <;> rfl

theorem returnIf_pc (cond : Cond) : (returnIf cond s).pc = if condHolds cond s.flags then s.topWord else s.pc := by
  unfold returnIf
  split <;> rfl

theorem restart_pc (n : BitVec 3) : (restart n s).pc = BitVec.ofNat 16 (8 * n.toNat) := by
  induction n using forall_rst <;> rfl

theorem aluTemplate_pc (op : AluOp) (v : Byte) : (aluTemplate op v s).pc = s.pc := by cases op <;> rfl

theorem incrementPair_pc (rp : Rp) : (incrementPair rp s).pc = s.pc := by
  rcases rp with p | _
  · simp only [incrementPair]
    split <;> rfl
  · rfl

theorem decrementPair_pc (rp : Rp) : (decrementPair rp s).pc = s.pc := by
  rcases rp with p | _
  · simp only [decrementPair]
    split <;> rfl
  · rfl

/-- Every instruction completes, and only a control transfer moves PC from where the fetch left it. -/
theorem exec_redirects_or_pc (i : Instr) : ∃ t, exec i s = .next t ∧ (redirects i ∨ t.pc = s.pc) := by
  induction i using forall_forms with
  -- the control transfers, in the order of `redirects`
  | h_jmp addr => exact ⟨_, rfl, .inl (.inl ⟨addr, .inl rfl⟩)⟩
  | h_call addr => exact ⟨_, rfl, .inl (.inl ⟨addr, .inr rfl⟩)⟩
  | h_jcc cond addr => exact ⟨_, exec_jcc s cond addr, .inl (.inr (.inl ⟨cond, addr, .inl rfl⟩))⟩
  | h_ccc cond addr => exact ⟨_, exec_ccc s cond addr, .inl (.inr (.inl ⟨cond, addr, .inr rfl⟩))⟩
  | h_ret => exact ⟨_, rfl, .inl (.inr (.inr (.inl rfl)))⟩
  | h_rcc cond => exact ⟨_, exec_rcc s cond, .inl (.inr (.inr (.inr (.inl ⟨cond, rfl⟩))))⟩
  | h_rst n => exact ⟨_, exec_rst s n, .inl (.inr (.inr (.inr (.inr (.inl ⟨n, rfl⟩)))))⟩
  | h_pchl => exact ⟨_, rfl, .inl (.inr (.inr (.inr (.inr (.inr rfl)))))⟩
  -- the forms whose shared operation chooses by its operand
  | h_aluReg op r => exact ⟨_, exec_aluReg s op r, .inr (aluTemplate_pc s op _)⟩
  | h_aluMem op => exact ⟨_, exec_aluMem s op, .inr (aluTemplate_pc s op _)⟩
  | h_aluImm op d8 => exact ⟨_, exec_aluImm s op d8, .inr (aluTemplate_pc s op _)⟩
  | h_inx rp => exact ⟨_, exec_inx s rp, .inr (incrementPair_pc s rp)⟩
  | h_dcx rp => exact ⟨_, exec_dcx s rp, .inr (decrementPair_pc s rp)⟩
  | h_lxi rp d16 => exact ⟨_, exec_lxi s rp d16, .inr (by cases rp <;> rfl)⟩
  -- the other forms: their operation is a chain of updates of other fields
  | h_mov r1 r2 => exact ⟨_, exec_mov s r1 r2, .inr rfl⟩
  | h_movFromM r => exact ⟨_, exec_movFromM s r, .inr rfl⟩
  | h_movToM r => exact ⟨_, exec_movToM s r, .inr rfl⟩
  | h_mvi r d8 => exact ⟨_, exec_mvi s r d8, .inr rfl⟩
  | h_ldax p => exact ⟨_, exec_ldax s p, .inr rfl⟩
  | h_stax p => exact ⟨_, exec_stax s p, .inr rfl⟩
  | h_inr r => exact ⟨_, exec_inr s r, .inr rfl⟩
  | h_dcr r => exact ⟨_, exec_dcr s r, .inr rfl⟩
  | h_dad rp => exact ⟨_, exec_dad s rp, .inr rfl⟩
  | h_push p => exact ⟨_, exec_push s p, .inr rfl⟩
  | h_pop p => exact ⟨_, exec_pop s p, .inr rfl⟩
  | h_undef u => exact ⟨_, exec_undef s u, .inr rfl⟩
  -- the rows that are forms of their own
  | h_mviM | h_lda | h_sta | h_lhld | h_shld | h_xchg | h_inrM | h_dcrM | h_daa | h_rlc | h_rrc | h_ral | h_rar | h_cma
  | h_cmc | h_stc | h_pushPsw | h_popPsw | h_xthl | h_inPort | h_outPort | h_sphl | h_ei | h_di | h_nop | h_hlt =>
    exact ⟨_, rfl, .inr rfl⟩

end

/-! ### PC over a whole step (10_state R26) -/

/-- A step's next state is what the instruction's own rule makes of the state after the fetch. -/
theorem next_of_fetchInstr {s t u : State} {i : Instr} (ht : exec (fetchInstr s) (afterFetch s) = .next t)
    (hi : fetchInstr s = i) (hu : exec i (afterFetch s) = .next u) : t = u := by
  rw [hi, hu] at ht
  exact (Host.Outcome.next.inj ht).symm

/-- Settles O48: the transfers by the shared operation of their form, the rest by `exec_redirects_or_pc`. -/
theorem pcAfterAStep : Obligations.PcAfterAStep := by
  intro s hrun
  obtain ⟨t, ht, hpc⟩ := exec_redirects_or_pc (afterFetch s) (fetchInstr s)
  refine ⟨t, (step_running hrun).trans ht, ?absolute, ?conditional, ?ret, ?rcc, ?rst, ?pchl, ?hlt, ?undefined, ?straight⟩
  case absolute =>
    rintro addr (h | h) <;> rw [next_of_fetchInstr ht h rfl] <;> rfl
  case conditional =>
    rintro cond addr (h | h)
    · rw [next_of_fetchInstr ht h (exec_jcc _ cond addr), jumpIf_pc, afterFetch_pc h, length_jcc]
      rfl
    · rw [next_of_fetchInstr ht h (exec_ccc _ cond addr), callIf_pc, afterFetch_pc h, length_ccc]
      rfl
  case ret =>
    intro h
    rw [next_of_fetchInstr ht h rfl]
    rfl
  case rcc =>
    intro cond h
    rw [next_of_fetchInstr ht h (exec_rcc _ cond), returnIf_pc, afterFetch_pc h, length_rcc]
    rfl
  case rst =>
    intro n h
    rw [next_of_fetchInstr ht h (exec_rst _ n), restart_pc]
  case pchl =>
    intro h
    rw [next_of_fetchInstr ht h rfl]
    rfl
  case hlt =>
    intro h
    rw [next_of_fetchInstr ht h rfl]
    exact ⟨afterFetch_pc h, rfl⟩
  case undefined =>
    rintro ⟨u, h⟩
    rw [next_of_fetchInstr ht h (exec_undef _ u), takeTrap_pc, afterFetch_pc h, length_undef]
    exact ⟨rfl, rfl⟩
  case straight =>
    exact fun h => hpc.resolve_left h

end Sys2Proof.Machine
end

section
/-! O22. A byte of memory: what a read returns after reset and after a write, and the frame of a write (20_memory R52). -/

namespace Sys2Proof.Machine

/-- Settles O22, by the laws of `load` after reset and after `store`; a store is an update of `mem` alone. -/
theorem bytesReadBack : Obligations.BytesReadBack := by
  refine ⟨reset_load, fun s a v => ⟨?written, ?others, ?frame⟩⟩
  case written => exact load_store_same s a v
  case others => exact fun _ hx => load_store_ne s v hx
  case frame => rfl

end Sys2Proof.Machine
end

section
/-! O14. The length table of 30_encoding R94, and the bytes a decoding takes. -/

namespace Sys2Proof

open Sys2Proof.Machine

/-- A byte string that ends inside its first instruction is refused by its opcode byte (30_encoding R80). -/
theorem decode_missing (op : Byte) (rest : List Byte) (h : rest.length + 1 < opcodeLength op) :
    decode (op :: rest) = .error (.missingOperand op) := by
  rcases opcodeLength_cases op with hop | hop | hop <;> rw [hop] at h
  · omega
  · have : rest = [] := List.length_eq_zero_iff.mp (by omega)
    simp [decode, hop, this]
  · match rest, h with
    | [], _ => simp [decode, hop]
    | [_], _ => simp [decode, hop]

/-- A byte string that holds its first instruction decodes, and the bytes after that instruction are left. -/
theorem decode_complete (op : Byte) (rest : List Byte) (h : opcodeLength op ≤ rest.length + 1) :
    ∃ i, decode (op :: rest) = .ok (i, rest.drop (opcodeLength op - 1)) := by
  rcases opcodeLength_cases op with hop | hop | hop <;> rw [hop] at h ⊢
  · exact ⟨_, decode_one op rest hop⟩
  · match rest, h with
    | b2 :: rest, _ => exact ⟨_, decode_two op b2 rest hop⟩
  · match rest, h with
    | b2 :: b3 :: rest, _ => exact ⟨_, decode_three op b2 b3 rest hop⟩

/-- Settles O14: the two lists of R94 are the model's own; the decoder by the length its opcode byte calls for. -/
theorem lengthOfOpcode : Obligations.LengthOfOpcode := by
  refine ⟨fun op => ?table, fun op rest => ⟨decode_complete op rest, decode_missing op rest⟩⟩
  case table => exact if_congr List.contains_iff_mem rfl (if_congr List.contains_iff_mem rfl rfl)

end Sys2Proof
end

section
/-! O17. Which bytes decode to an undefined opcode, which instructions write RUN and the trap record, and the trap of a
whole step (30_encoding R88, 60_exceptions R241 to R243). -/

namespace Sys2Proof

/-! ### The twelve bytes and no others decode to an undefined opcode (30_encoding R88) -/

theorem undefOpcodes_eq_map : undefOpcodes =
    [UndefOp.x08, .x10, .x18, .x20, .x28, .x30, .x38, .xCB, .xD9, .xDD, .xED, .xFD].map undefByte := rfl

theorem mem_undefOpcodes {op : Byte} : op ∈ undefOpcodes ↔ ∃ u, undefByte u = op := by
  constructor
  · intro h
    rw [undefOpcodes_eq_map] at h
    obtain ⟨u, -, hu⟩ := List.mem_map.mp h
    exact ⟨u, hu⟩
  · rintro ⟨u, rfl⟩
    cases u <;> decide

theorem decodeBytes_undefByte (u : UndefOp) (b2 b3 : Byte) : decodeBytes (undefByte u) b2 b3 = Instr.undef u := by
  cases u <;> rfl

theorem opcode_undef (u : UndefOp) : (Instr.undef u).opcode = undefByte u := by cases u <;> rfl

/-- The operand bytes have no say in the opcode byte of an instruction. -/
theorem opcode_decodeBytes_operands (op b2 b3 : Byte) :
    (decodeBytes op b2 b3).opcode = (decodeBytes op 0 0).opcode := by
  unfold decodeBytes
  generalize op.extractLsb' 0 4 = lo
  split
  case h_1 => unfold gridRow0; split <;> rfl
  case h_2 => unfold gridRow1; split <;> rfl
  case h_3 => unfold gridRow2; split <;> rfl
  case h_4 => unfold gridRow3; split <;> rfl
  case h_13 => unfold gridRowC; split <;> rfl
  case h_14 => unfold gridRowD; split <;> rfl
  case h_15 => unfold gridRowE; split <;> rfl
  case h_16 => unfold gridRowF; split <;> rfl
  all_goals rfl

theorem opcode_decodeBytes_zero : ∀ op : Byte, (decodeBytes op 0 0).opcode = op := by decide

/-- What a byte decodes to is encoded with that byte. -/
theorem opcode_decodeBytes (op b2 b3 : Byte) : (decodeBytes op b2 b3).opcode = op :=
  (opcode_decodeBytes_operands op b2 b3).trans (opcode_decodeBytes_zero op)

end Sys2Proof

namespace Sys2Proof.Machine

theorem undefByte_of_fetchInstr {s : State} {u : UndefOp} (h : fetchInstr s = Instr.undef u) :
    undefByte u = s.load s.pc := by
  rw [← opcode_undef, ← h]
  exact opcode_decodeBytes _ _ _

theorem fetchInstr_of_undefByte {s : State} {u : UndefOp} (h : undefByte u = s.load s.pc) :
    fetchInstr s = Instr.undef u := by
  rw [fetchInstr, ← h, decodeBytes_undefByte]

theorem isUndefined_fetchInstr (s : State) : isUndefined (fetchInstr s) ↔ s.load s.pc ∈ undefOpcodes := by
  rw [mem_undefOpcodes]
  exact ⟨fun ⟨u, h⟩ => ⟨u, undefByte_of_fetchInstr h⟩, fun ⟨u, h⟩ => ⟨u, fetchInstr_of_undefByte h⟩⟩

/-! ### The writers of the control state (10_state R30 to R32) -/

theorem sameControl_refl {s : State} : sameControl s s := ⟨rfl, rfl, rfl, rfl⟩

section

variable (s : State)

theorem jumpIf_control (cond : Cond) (addr : Word) : sameControl s (jumpIf cond addr s) := by
  unfold jumpIf
  split <;> exact sameControl_refl

theorem callIf_control (cond : Cond) (addr : Word) : sameControl s (callIf cond addr s) := by
  unfold callIf
  split <;> exact sameControl_refl

theorem returnIf_control (cond : Cond) : sameControl s (returnIf cond s) := by
  unfold returnIf
  split <;> exact sameControl_refl

theorem aluTemplate_control (op : AluOp) (v : Byte) : sameControl s (aluTemplate op v s) := by
  cases op <;> exact sameControl_refl

theorem incrementPair_control (rp : Rp) : sameControl s (incrementPair rp s) := by
  rcases rp with p | _
  · simp only [incrementPair]
    split <;> exact sameControl_refl
  · exact sameControl_refl

theorem decrementPair_control (rp : Rp) : sameControl s (decrementPair rp s) := by
  rcases rp with p | _
  · simp only [decrementPair]
    split <;> exact sameControl_refl
  · exact sameControl_refl

theorem loadImmPair_control (rp : Rp) (d16 : Word) : sameControl s (loadImmPair rp d16 s) := by
  cases rp <;> exact sameControl_refl

/-- What `i` makes of INTE, RUN and the trap record of `s` when it answers `t`: the trap writes RUN and the record, HLT
writes RUN, EI and DI write INTE, and whatever else answers `t` keeps all of it. -/
inductive ControlWrite (s : State) : Instr → State → Prop
  | undef (u : UndefOp) : ControlWrite s (Instr.undef u) (s.takeTrap (undefByte u))
  | hlt : ControlWrite s .hlt s.halt
  | ei : ControlWrite s .ei (s.setInte true)
  | di : ControlWrite s .di (s.setInte false)
  | keeps {i : Instr} {t : State} (h : sameControl s t) : ControlWrite s i t

/-- Every instruction completes, and only the trap, HLT, EI and DI write control state. -/
theorem exec_controlWrite (i : Instr) : ∃ t, exec i s = .next t ∧ ControlWrite s i t := by
  induction i using forall_forms with
  -- the writers
  | h_undef u => exact ⟨_, exec_undef s u, .undef u⟩
  | h_hlt => exact ⟨_, rfl, .hlt⟩
  | h_ei => exact ⟨_, rfl, .ei⟩
  | h_di => exact ⟨_, rfl, .di⟩
  -- the forms whose shared operation chooses by its operand or its condition
  | h_jcc cond addr => exact ⟨_, exec_jcc s cond addr, .keeps (jumpIf_control s cond addr)⟩
  | h_ccc cond addr => exact ⟨_, exec_ccc s cond addr, .keeps (callIf_control s cond addr)⟩
  | h_rcc cond => exact ⟨_, exec_rcc s cond, .keeps (returnIf_control s cond)⟩
  | h_aluReg op r => exact ⟨_, exec_aluReg s op r, .keeps (aluTemplate_control s op _)⟩
  | h_aluMem op => exact ⟨_, exec_aluMem s op, .keeps (aluTemplate_control s op _)⟩
  | h_aluImm op d8 => exact ⟨_, exec_aluImm s op d8, .keeps (aluTemplate_control s op _)⟩
  | h_inx rp => exact ⟨_, exec_inx s rp, .keeps (incrementPair_control s rp)⟩
  | h_dcx rp => exact ⟨_, exec_dcx s rp, .keeps (decrementPair_control s rp)⟩
  | h_lxi rp d16 => exact ⟨_, exec_lxi s rp d16, .keeps (loadImmPair_control s rp d16)⟩
  -- the other forms: their operation is a chain of updates of other fields
  | h_mov r1 r2 => exact ⟨_, exec_mov s r1 r2, .keeps sameControl_refl⟩
  | h_movFromM r => exact ⟨_, exec_movFromM s r, .keeps sameControl_refl⟩
  | h_movToM r => exact ⟨_, exec_movToM s r, .keeps sameControl_refl⟩
  | h_mvi r d8 => exact ⟨_, exec_mvi s r d8, .keeps sameControl_refl⟩
  | h_ldax p => exact ⟨_, exec_ldax s p, .keeps sameControl_refl⟩
  | h_stax p => exact ⟨_, exec_stax s p, .keeps sameControl_refl⟩
  | h_inr r => exact ⟨_, exec_inr s r, .keeps sameControl_refl⟩
  | h_dcr r => exact ⟨_, exec_dcr s r, .keeps sameControl_refl⟩
  | h_dad rp => exact ⟨_, exec_dad s rp, .keeps sameControl_refl⟩
  | h_push p => exact ⟨_, exec_push s p, .keeps sameControl_refl⟩
  | h_pop p => exact ⟨_, exec_pop s p, .keeps sameControl_refl⟩
  | h_rst n => exact ⟨_, exec_rst s n, .keeps sameControl_refl⟩
  -- the rows that are forms of their own
  | h_mviM | h_lda | h_sta | h_lhld | h_shld | h_xchg | h_inrM | h_dcrM | h_daa | h_rlc | h_rrc | h_ral | h_rar | h_cma
  | h_cmc | h_stc | h_jmp | h_call | h_ret | h_pchl | h_pushPsw | h_popPsw | h_xthl | h_inPort | h_outPort | h_sphl
  | h_nop =>
    exact ⟨_, rfl, .keeps sameControl_refl⟩

end

/-- An instruction that is not undefined neither traps nor writes the trap record (10_state R32). -/
theorem ControlWrite.noTrap {s t : State} {i : Instr} (h : ControlWrite s i t) (hi : ¬ isUndefined i) :
    (t.run = s.run ∨ t.run = .halted) ∧ t.trapOpcode = s.trapOpcode ∧ t.trapPc = s.trapPc := by
  cases h with
  | undef u => exact absurd ⟨u, rfl⟩ hi
  | hlt => exact ⟨.inr rfl, rfl, rfl⟩
  | ei | di => exact ⟨.inl rfl, rfl, rfl⟩
  | keeps h =>
    obtain ⟨-, hrun, hop, hpc⟩ := h
    exact ⟨.inl hrun, hop, hpc⟩

/-! ### The trap of a whole step (60_exceptions R241 to R243) -/

/-- The outcome of a step that ends in RUN = TRAPPED is Trap with the trap record (00_scope R9). -/
theorem coreStep_of_trapped {s t : State} (h : step s = .next t) (ht : t.run = .trapped) :
    coreStep s = .trap t t.trapOpcode t.trapPc := by
  simp [coreStep, stepState, h, ht]

/-- A step onto an undefined opcode takes the trap in the state after the fetch. -/
theorem step_undef {s : State} {u : UndefOp} (hrun : s.run = .running) (h : fetchInstr s = Instr.undef u) :
    step s = .next ((s.setPc (s.pc + 1)).takeTrap (s.load s.pc)) := by
  have hlen : opcodeLength (s.load s.pc) = 1 := by rw [← length_fetchInstr, h, length_undef]
  rw [step_running hrun, h, exec_undef, undefByte_of_fetchInstr h, afterFetch, hlen]
  rfl

/-- Settles O17: the twelve bytes by `step_undef`, the others because only an undefined opcode writes the trap record. -/
theorem undefinedOpcodesTrap : Obligations.UndefinedOpcodesTrap := by
  intro s hrun
  by_cases hop : s.load s.pc ∈ undefOpcodes
  case pos =>
    obtain ⟨u, hu⟩ := (isUndefined_fetchInstr s).mpr hop
    have hstep := step_undef hrun hu
    have hpc : s.pc + 1 - 1 = s.pc := BitVec.add_sub_cancel s.pc 1
    refine ⟨_, hstep, fun _ => ⟨?outcome, rfl, rfl, hpc, rfl, fun _ => rfl, rfl, rfl, rfl, fun _ => rfl⟩,
      fun h => absurd hop h⟩
    case outcome => simpa [hpc] using coreStep_of_trapped hstep rfl
  case neg =>
    obtain ⟨t, ht, hw⟩ := exec_controlWrite (afterFetch s) (fetchInstr s)
    obtain ⟨hrun', hopcode, hpc⟩ := hw.noTrap (mt (isUndefined_fetchInstr s).mp hop)
    refine ⟨t, (step_running hrun).trans ht, fun h => absurd h hop, fun _ => ⟨?notTrapped, hopcode, hpc⟩⟩
    case notTrapped =>
      have hfetch : (afterFetch s).run = .running := hrun
      rcases hrun' with h | h <;> simp [h, hfetch]

end Sys2Proof.Machine
end

section
/-! The decoder undoes the encoder (30_encoding R80, R81), so an instruction is `encodedAs` the bytes the encoder gives. -/

namespace Sys2Proof

open Sys2Proof.Machine

/-- An opcode that hands its two operand bytes to `f` as one word: the bytes of `v`, low byte first, come back as `f v`. -/
theorem decode_word (op : Byte) (f : Word → Instr) (v : Word) (rest : List Byte) (hlen : opcodeLength op = 3)
    (hf : ∀ b2 b3, decodeBytes op b2 b3 = f (joinBytes b3 b2)) :
    decode (op :: loByte v :: hiByte v :: rest) = .ok (f v, rest) := by
  rw [decode_three op _ _ rest hlen, hf, joinBytes_hi_lo]

/-- Decoding an encoding gives the instruction back and leaves what stood after it: only the rows with a `d16` put bytes
together again, the others read back as they were written. -/
theorem decode_encode (i : Instr) (rest : List Byte) : decode (encode i ++ rest) = .ok (i, rest) := by
  cases i with
  | lxiB v | lxiD v | lxiH v | lxiSp v | lda v | sta v | lhld v | shld v | jmp v | jnz v | jz v | jnc v | jc v | jpo v
  | jpe v | jp v | jm v | call v | cnz v | cz v | cnc v | cc v | cpo v | cpe v | cp v | cm v =>
    dsimp only [encode, Instr.opcode, Instr.operandBytes]
    exact decode_word _ _ v rest rfl fun _ _ => rfl
  | _ =>
    dsimp only [encode, Instr.opcode, Instr.operandBytes]
    rfl

theorem encodedAs_of_encode {i : Instr} {bytes : List Byte} (h : encode i = bytes) : encodedAs i bytes :=
  ⟨h, fun rest => h ▸ decode_encode i rest⟩

end Sys2Proof
end

section
/-! O25 to O31. The data transfers of 40_data_transfer: what one write of a register, a pair, SP or memory leaves, how two
writes one after the other change the state, and each form's encoding, cycles and effect. -/

namespace Sys2Proof.Machine

/-! ### One write, and two -/

section

variable (s : State)

/-- A rule that writes one register: the value is there, and all else is as before. -/
theorem setReg_effect (r : Reg) (v : Byte) :
    (s.setReg r v).reg r = v ∧ changesOnly [r] [] s (s.setReg r v) ∧ (s.setReg r v).flags = s.flags ∧
      samePointers s (s.setReg r v) :=
  ⟨reg_setReg_same s r v, changesOnly_setReg s r v, rfl, rfl, rfl⟩

/-- A rule that stores one byte: the value is there, and all else is as before. -/
theorem store_effect (a : Word) (v : Byte) :
    (s.store a v).load a = v ∧ changesOnly [] [a] s (s.store a v) ∧ (s.store a v).flags = s.flags ∧
      samePointers s (s.store a v) :=
  ⟨load_store_same s a v, changesOnly_store s a v, rfl, rfl, rfl⟩

theorem changesOnly_setSp (v : Word) : changesOnly [] [] s (s.setSp v) :=
  ⟨fun _ _ => rfl, fun _ _ => rfl, rfl, rfl, rfl, rfl⟩

end

theorem sameControl_trans {s t u : State} (h : sameControl s t) (h' : sameControl t u) : sameControl s u := by
  obtain ⟨hinte, hrun, hop, hpc⟩ := h
  obtain ⟨hinte', hrun', hop', hpc'⟩ := h'
  exact ⟨hinte'.trans hinte, hrun'.trans hrun, hop'.trans hop, hpc'.trans hpc⟩

/-- One change after another changes no more than what either of them may. -/
theorem changesOnly_trans {s t u : State} {rs rs' : List Reg} {as as' : List Word} (h : changesOnly rs as s t)
    (h' : changesOnly rs' as' t u) : changesOnly (rs ++ rs') (as ++ as') s u := by
  obtain ⟨hreg, hmem, hcontrol⟩ := h
  obtain ⟨hreg', hmem', hcontrol'⟩ := h'
  refine ⟨fun r hr => ?regs, fun a ha => ?memory, sameControl_trans hcontrol hcontrol'⟩
  case regs =>
    rw [List.mem_append, not_or] at hr
    exact (hreg' r hr.2).trans (hreg r hr.1)
  case memory =>
    rw [List.mem_append, not_or] at ha
    exact (hmem' a ha.2).trans (hmem a ha.1)

/-- Registers may be added to a frame. -/
theorem changesOnly_mono {s t : State} {rs rs' : List Reg} {as : List Word} (h : changesOnly rs as s t)
    (hrs : rs ⊆ rs') : changesOnly rs' as s t :=
  have ⟨hreg, hrest⟩ := h
  ⟨fun r hr => hreg r (mt (@hrs r) hr), hrest⟩

/-! ### Encodings and cycles of the forms -/

section

variable (r r1 r2 : Reg) (p : AddrPair) (rp : Rp) (d8 : Byte) (d16 : Word)

theorem encode_mov : encode (Instr.mov r1 r2) = [0b01#2 ++ regCode r1 ++ regCode r2] := by
  cases r1 <;> cases r2 <;> rfl

theorem encode_movFromM : encode (Instr.movFromM r) = [0b01#2 ++ regCode r ++ memCode] := by cases r <;> rfl

theorem encode_movToM : encode (Instr.movToM r) = [0b01#2 ++ memCode ++ regCode r] := by cases r <;> rfl

theorem encode_mvi : encode (Instr.mvi r d8) = [0b00#2 ++ regCode r ++ 0b110#3, d8] := by cases r <;> rfl

theorem encode_lxi : encode (Instr.lxi rp d16) = [0b00#2 ++ rpCode rp ++ 0b0001#4, loByte d16, hiByte d16] := by
  rcases rp with p | _
  · cases p <;> rfl
  · rfl

theorem encode_ldax : encode (Instr.ldax p) = [0b000#3 ++ addrPairCode p ++ 0b1010#4] := by cases p <;> rfl

theorem encode_stax : encode (Instr.stax p) = [0b000#3 ++ addrPairCode p ++ 0b0010#4] := by cases p <;> rfl

theorem costs_mov : costs (Instr.mov r1 r2) 5 := fun _ => by cases r1 <;> cases r2 <;> rfl

theorem costs_movFromM : costs (Instr.movFromM r) 7 := fun _ => by cases r <;> rfl

theorem costs_movToM : costs (Instr.movToM r) 7 := fun _ => by cases r <;> rfl

theorem costs_mvi : costs (Instr.mvi r d8) 7 := fun _ => by cases r <;> rfl

theorem costs_lxi : costs (Instr.lxi rp d16) 10 := fun _ => by
  rcases rp with p | _
  · cases p <;> rfl
  · rfl

theorem costs_ldax : costs (Instr.ldax p) 7 := fun _ => by cases p <;> rfl

theorem costs_stax : costs (Instr.stax p) 7 := fun _ => by cases p <;> rfl

end

/-! ### Moves of one byte -/

/-- Settles O25: MOV r1,r2 is one register write. -/
theorem movCopiesRegister : Obligations.MovCopiesRegister := fun r1 r2 s =>
  ⟨encodedAs_of_encode (encode_mov r1 r2), costs_mov r1 r2, _, exec_mov s r1 r2, setReg_effect s r1 _⟩

/-- Settles O26: MOV r,M is one register write, of a value read before it. -/
theorem movLoadsFromHl : Obligations.MovLoadsFromHl := fun r s =>
  ⟨encodedAs_of_encode (encode_movFromM r), costs_movFromM r, _, exec_movFromM s r, setReg_effect s r _⟩

/-- Settles O27: MOV M,r and MVI M,d8 are one store, at an address read before it. -/
theorem storesAtHl : Obligations.StoresAtHl := by
  refine ⟨fun r s => ?register, fun d8 s => ?immediate⟩
  case register =>
    exact ⟨encodedAs_of_encode (encode_movToM r), costs_movToM r, _, exec_movToM s r, store_effect s s.hl _⟩
  case immediate => exact ⟨encodedAs_of_encode rfl, fun _ => rfl, _, rfl, store_effect s s.hl d8⟩

/-- Settles O29: a register write for the loads, a store for the stores; the address is the operand word or a pair. -/
theorem accumulatorLoadsAndStores : Obligations.AccumulatorLoadsAndStores := by
  refine fun addr p s => ⟨?lda, ?sta, ?ldax, ?stax, rfl, rfl⟩
  case lda => exact ⟨encodedAs_of_encode rfl, fun _ => rfl, _, rfl, setReg_effect s .a _⟩
  case sta => exact ⟨encodedAs_of_encode rfl, fun _ => rfl, _, rfl, store_effect s addr _⟩
  case ldax => exact ⟨encodedAs_of_encode (encode_ldax p), costs_ldax p, _, exec_ldax s p, setReg_effect s .a _⟩
  case stax => exact ⟨encodedAs_of_encode (encode_stax p), costs_stax p, _, exec_stax s p, store_effect s _ _⟩

/-! ### Immediates -/

/-- Settles O28: MVI is a register write; LXI writes the two halves of a pair, or SP. -/
theorem immediateLoads : Obligations.ImmediateLoads := by
  refine ⟨fun r d8 s => ?mvi, fun rp d16 => ⟨encodedAs_of_encode (encode_lxi rp d16), costs_lxi rp d16⟩,
    fun p d16 s => ?lxiPair, fun d16 s => ?lxiSp⟩
  case mvi => exact ⟨encodedAs_of_encode (encode_mvi r d8), costs_mvi r d8, _, exec_mvi s r d8, setReg_effect s r d8⟩
  case lxiPair =>
    exact ⟨_, exec_lxi s (.pair p) d16, reg_setPair_hi s p d16, reg_setPair_lo s p d16, changesOnly_setPair s p d16,
      rfl, rfl, rfl⟩
  case lxiSp => exact ⟨_, exec_lxi s .sp d16, rfl, changesOnly_setSp s d16, rfl, rfl⟩

/-! ### LHLD and SHLD -/

theorem changesOnly_loadHlDirect (addr : Word) (s : State) : changesOnly [.l, .h] [] s (loadHlDirect addr s) :=
  changesOnly_trans (changesOnly_setReg s .l _) (changesOnly_setReg _ .h _)

theorem changesOnly_storeHlDirect (addr : Word) (s : State) :
    changesOnly [] [addr, addr + 1] s (storeHlDirect addr s) :=
  changesOnly_trans (changesOnly_store s addr _) (changesOnly_store _ (addr + 1) _)

/-- The second store of SHLD does not reach the first, also where `addr + 1` wraps. -/
theorem load_storeHlDirect (addr : Word) (s : State) : (storeHlDirect addr s).load addr = s.reg .l := by
  simp only [storeHlDirect]
  rw [load_store_ne _ _ (ne_add_one addr), load_store_same]

/-- Settles O30: two register writes for LHLD, two stores for SHLD. -/
theorem hlLoadsAndStores : Obligations.HlLoadsAndStores := by
  refine fun addr s => ⟨?lhld, ?shld⟩
  case lhld =>
    exact ⟨encodedAs_of_encode rfl, fun _ => rfl, _, rfl, rfl, rfl, rfl, changesOnly_loadHlDirect addr s,
      rfl, rfl, rfl⟩
  case shld =>
    exact ⟨encodedAs_of_encode rfl, fun _ => rfl, _, rfl, load_storeHlDirect addr s, load_store_same _ (addr + 1) _,
      changesOnly_storeHlDirect addr s, rfl, rfl, rfl⟩

/-! ### XCHG -/

theorem changesOnly_exchangeDeHl (s : State) : changesOnly [.d, .e, .h, .l] [] s (exchangeDeHl s) :=
  changesOnly_mono (changesOnly_trans (changesOnly_setPair s .hl _) (changesOnly_setPair _ .de _)) (by decide)

theorem exchangeDeHl_exchangeDeHl (s : State) : exchangeDeHl (exchangeDeHl s) = s := by
  rw [exchangeDeHl_eq, exchangeDeHl_eq]

/-- The registers XCHG writes, by the one record update it comes to. -/
theorem reg_exchangeDeHl (s : State) :
    (exchangeDeHl s).reg .h = s.reg .d ∧ (exchangeDeHl s).reg .l = s.reg .e ∧
      (exchangeDeHl s).reg .d = s.reg .h ∧ (exchangeDeHl s).reg .e = s.reg .l := by
  rw [exchangeDeHl_eq]
  exact ⟨rfl, rfl, rfl, rfl⟩

/-- Settles O31: the pairs follow from their halves. -/
theorem xchgSwapsPairs : Obligations.XchgSwapsPairs := by
  refine ⟨encodedAs_of_encode rfl, fun _ => rfl, fun s => ?_⟩
  obtain ⟨hh, hl, hd, he⟩ := reg_exchangeDeHl s
  exact ⟨_, rfl, congrArg₂ joinBytes hh hl, congrArg₂ joinBytes hd he, hh, hl, hd, he, changesOnly_exchangeDeHl s, rfl,
    ⟨rfl, rfl⟩, congrArg Host.Outcome.next (exchangeDeHl_exchangeDeHl s)⟩

end Sys2Proof.Machine
end

section
/-! O18. The flag functions against flags written apart from them (41_arithmetic R140 to R142). -/

namespace Sys2Proof.Machine

/-- `parity` counts by `countP`; counting is the length of the filtered list. -/
theorem parity_eq (n w : Nat) :
    parity n w = decide (((List.range w).filter (fun k => n.testBit k)).length % 2 = 0) := by
  rw [← List.countP_eq_length_filter]
  exact beq_eq_decide _ _

/-- `flagsLogic` is `flagsZSP` after CY and AC are cleared, so Z, S and P are those of its byte. -/
theorem zspOf_flagsLogic (r : Byte) (f : Flags) : zspOf r (flagsLogic r f) := zspOf_flagsZSP r _

/-- Settles O18: the exclusive or of R140 by `parity8_eq`; `flagsLogic` by what `flagsZSP` writes. -/
theorem flagFunctions : Obligations.FlagFunctions := by
  refine ⟨parity_eq, parity8_eq, fun r f => ?zsp, fun r f => ?logic⟩
  case zsp => exact ⟨zspOf_flagsZSP r f, flagsZSP_cy r f, flagsZSP_ac r f⟩
  case logic => exact ⟨zspOf_flagsLogic r f, rfl, rfl⟩

end Sys2Proof.Machine
end

section
/-! O32, O33. The three forms of an ALU operation come to its template (30_encoding R85); what the templates of addition
and subtraction leave (41_arithmetic section 2). -/

namespace Sys2Proof.Machine

open Sys2Proof.Shape

/-! ### Encodings and cycles of the three forms -/

section

variable (op : AluOp) (r : Reg) (d8 : Byte)

theorem encode_aluReg : encode (Instr.aluReg op r) = [0b10#2 ++ aluCode op ++ regCode r] := by
  cases op <;> cases r <;> rfl

theorem encode_aluMem : encode (Instr.aluMem op) = [0b10#2 ++ aluCode op ++ memCode] := by cases op <;> rfl

theorem encode_aluImm : encode (Instr.aluImm op d8) = [0b11#2 ++ aluCode op ++ 0b110#3, d8] := by cases op <;> rfl

theorem costs_aluReg : costs (Instr.aluReg op r) 4 := fun _ => by cases op <;> cases r <;> rfl

theorem costs_aluMem : costs (Instr.aluMem op) 7 := fun _ => by cases op <;> rfl

theorem costs_aluImm : costs (Instr.aluImm op d8) 7 := fun _ => by cases op <;> rfl

end

/-- What an operation's template does with every operand, each of the three forms does with its own. -/
theorem aluForms_of_template {op : AluOp} {result : Byte → State → State → Prop}
    (h : ∀ v s, result v s (aluTemplate op v s)) : aluForms op result := by
  refine fun s => ⟨fun r => ?register, ?memory, fun d8 => ?immediate⟩
  case register => exact ⟨encodedAs_of_encode (encode_aluReg op r), costs_aluReg op r, _, exec_aluReg s op r, h _ s⟩
  case memory => exact ⟨encodedAs_of_encode (encode_aluMem op), costs_aluMem op, _, exec_aluMem s op, h _ s⟩
  case immediate =>
    exact ⟨encodedAs_of_encode (encode_aluImm op d8), costs_aluImm op d8, _, exec_aluImm s op d8, h d8 s⟩

/-! ### The templates -/

section

variable (v : Byte) (c : Bool) (s : State)

theorem addTemplate_zsp : zspOf ((addTemplate v c s).reg .a) (addTemplate v c s).flags := by
  rw [addTemplate_flags_of_a]
  exact zspOf_flagsZSP _ _

theorem subTemplate_zsp : zspOf ((subTemplate v c s).reg .a) (subTemplate v c s).flags := by
  rw [subTemplate_flags_of_a]
  exact zspOf_flagsZSP _ _

/-- A, the five flags and the frame of ADD-template. -/
theorem addTemplate_adds : adds c v s (addTemplate v c s) :=
  ⟨addTemplate_a v c s, addTemplate_cy v c s, addTemplate_ac v c s, addTemplate_zsp v c s, addTemplate_frame v c s,
    rfl, rfl⟩

/-- The five flags of SUB-template, Z, S and P by way of the difference it leaves in A. -/
theorem subTemplate_differenceFlags : differenceFlags c (s.reg .a) v (subTemplate v c s).flags := by
  refine ⟨subTemplate_cy v c s, subTemplate_ac v c s, ?_⟩
  rw [← subTemplate_a]
  exact subTemplate_zsp v c s

/-- A, the five flags and the frame of SUB-template. -/
theorem subTemplate_subtracts : subtracts c v s (subTemplate v c s) :=
  ⟨subTemplate_a v c s, subTemplate_differenceFlags v c s, subTemplate_frame v c s, rfl, rfl⟩

end

/-- Settles O32: ADD is the template without carry in, ADC with the carry of the state before. -/
theorem additionsAdd : Obligations.AdditionsAdd :=
  ⟨aluForms_of_template fun v s => addTemplate_adds v false s,
    aluForms_of_template fun v s => addTemplate_adds v s.flags.cy s⟩

/-- Settles O33: SUB is the template without borrow in, SBB with the carry of the state before. -/
theorem subtractionsSubtract : Obligations.SubtractionsSubtract :=
  ⟨aluForms_of_template fun v s => subTemplate_subtracts v false s,
    aluForms_of_template fun v s => subTemplate_subtracts v s.flags.cy s⟩

end Sys2Proof.Machine
end

section
/-! O34, O35. INR and DCR: a result written to a register or to M, with Z, S and P of it (41_arithmetic R156 to R159). -/

namespace Sys2Proof.Machine

/-! ### Encodings and cycles -/

section

variable (r : Reg)

theorem encode_inr : encode (Instr.inr r) = [0b00#2 ++ regCode r ++ 0b100#3] := by cases r <;> rfl

theorem encode_dcr : encode (Instr.dcr r) = [0b00#2 ++ regCode r ++ 0b101#3] := by cases r <;> rfl

theorem costs_inr : costs (Instr.inr r) 5 := fun _ => by cases r <;> rfl

theorem costs_dcr : costs (Instr.dcr r) 5 := fun _ => by cases r <;> rfl

end

/-! ### A result with its Z, S and P -/

section

variable (s : State) (v : Byte)

/-- A register written with the Z, S and P of its new value: CY, AC and all else are as before. -/
theorem setReg_flagsZSP_effect (r : Reg) :
    let t := (s.setReg r v).setFlags (flagsZSP v s.flags)
    t.reg r = v ∧ zspOf v t.flags ∧ t.flags.cy = s.flags.cy ∧ t.flags.ac = s.flags.ac ∧ changesOnly [r] [] s t ∧
      samePointers s t :=
  ⟨reg_setReg_same s r v, zspOf_flagsZSP v _, rfl, rfl,
    changesOnly_trans (changesOnly_setReg s r v) (changesOnly_setFlags _ _ [] []), rfl, rfl⟩

/-- M written with the Z, S and P of its new value: CY, AC and all else are as before. -/
theorem setM_flagsZSP_effect :
    let t := (s.setM v).setFlags (flagsZSP v s.flags)
    t.load s.hl = v ∧ zspOf v t.flags ∧ t.flags.cy = s.flags.cy ∧ t.flags.ac = s.flags.ac ∧
      changesOnly [] [s.hl] s t ∧ samePointers s t :=
  ⟨load_store_same s s.hl v, zspOf_flagsZSP v _, rfl, rfl,
    changesOnly_trans (changesOnly_store s s.hl v) (changesOnly_setFlags _ _ [] []), rfl, rfl⟩

end

/-- Settles O34: the operand plus 1 is written back with its Z, S and P. -/
theorem inrIncrements : Obligations.InrIncrements := by
  refine ⟨fun r s => ?register, encodedAs_of_encode rfl, fun _ => rfl, fun s => ?memory⟩
  case register =>
    exact ⟨encodedAs_of_encode (encode_inr r), costs_inr r, _, exec_inr s r, setReg_flagsZSP_effect s (s.reg r + 1) r⟩
  case memory => exact ⟨_, rfl, setM_flagsZSP_effect s (s.load s.hl + 1)⟩

/-- Settles O35: the operand minus 1 is written back with its Z, S and P. -/
theorem dcrDecrements : Obligations.DcrDecrements := by
  refine ⟨fun r s => ?register, encodedAs_of_encode rfl, fun _ => rfl, fun s => ?memory⟩
  case register =>
    exact ⟨encodedAs_of_encode (encode_dcr r), costs_dcr r, _, exec_dcr s r, setReg_flagsZSP_effect s (s.reg r - 1) r⟩
  case memory => exact ⟨_, rfl, setM_flagsZSP_effect s (s.load s.hl - 1)⟩

end Sys2Proof.Machine
end

section
/-! O38. DAA (41_arithmetic R163): the model adds one correction; the two steps of the 8080's description come to the same. -/

namespace Sys2Proof.Machine

/-- The one correction DAA adds: 6 for its low step, 0x60 for its high step. -/
def daaCorrection (low high : Bool) : Byte := (if low then 0x06 else 0x00) + (if high then 0x60 else 0x00)

/-- A after the low step, as a number that may pass 255. -/
def daaStepOne (a : Byte) (low : Bool) : Nat := if low then a.toNat + 6 else a.toNat

/-! ### The two steps -/

section

variable (a : Byte) (f : Flags) (low high : Bool)

theorem daaLow_eq : daaLow a f = (f.ac || decide (9 < a.toNat % 16)) := by rw [daaLow, loNibble_toNat]

/-- A low step that is taken whenever the low nibble is above 9 carries into the high part exactly then. -/
theorem lt_daaStepOne_div (h : 9 < a.toNat % 16 → low = true) :
    9 < daaStepOne a low / 16 ↔ 9 < a.toNat / 16 ∨ 9 ≤ a.toNat / 16 ∧ 9 < a.toNat % 16 := by
  cases low <;> simp [daaStepOne] at h ⊢ <;> omega

/-- R163 reads the high step's condition off A as it was; it is the condition on A after the low step. -/
theorem daaHigh_eq : daaHigh a f = (f.cy || decide (9 < daaStepOne a (daaLow a f) / 16)) := by
  have h : 9 < a.toNat % 16 → daaLow a f = true := fun hlo => by simp [daaLow_eq, hlo]
  simp [daaHigh, hiNibble_toNat, loNibble_toNat, lt_daaStepOne_div _ _ h, Bool.or_assoc]

/-- AC: only the low step can carry out of bit 3, for 0x60 has an empty low nibble. -/
theorem acAdd_daaCorrection :
    acAdd a (daaCorrection low high) false = (low && decide (16 ≤ a.toNat % 16 + 6)) := by
  have hlow : (loNibble (daaCorrection low high)).toNat = if low then 6 else 0 := by
    cases low <;> cases high <;> rfl
  rw [acAdd, hlow, loNibble_toNat]
  cases low <;> simp <;> omega

/-- One addition of the correction is the two additions one after the other, modulo 256. -/
theorem add_daaCorrection :
    a + daaCorrection low high = BitVec.ofNat 8 (if high then daaStepOne a low + 0x60 else daaStepOne a low) := by
  apply BitVec.eq_of_toNat_eq
  cases low <;> cases high <;> simp [daaCorrection, daaStepOne]

end

/-! ### What DAA leaves -/

section

variable (s : State)

theorem decimalAdjust_a :
    (decimalAdjust s).reg .a
      = s.reg .a + daaCorrection (daaLow (s.reg .a) s.flags) (daaHigh (s.reg .a) s.flags) := rfl

/-- A set CY makes the high step apply, so "never cleared" needs no case of its own. -/
theorem decimalAdjust_cy : (decimalAdjust s).flags.cy = daaHigh (s.reg .a) s.flags := by
  show (s.flags.cy || daaHigh (s.reg .a) s.flags) = daaHigh (s.reg .a) s.flags
  rw [daaHigh_eq, ← Bool.or_assoc, Bool.or_self]

theorem decimalAdjust_ac :
    (decimalAdjust s).flags.ac
      = acAdd (s.reg .a) (daaCorrection (daaLow (s.reg .a) s.flags) (daaHigh (s.reg .a) s.flags)) false := rfl

end

/-- Settles O38: A, CY and AC by the two steps; the rest is a result into A with its flags. -/
theorem daaAdjusts : Obligations.DaaAdjusts := by
  refine ⟨encodedAs_of_encode rfl, fun _ => rfl, fun s => ⟨decimalAdjust s, rfl, ?steps, zspOf_flagsZSP _ _,
    changesOnly_setFlags_setA s _ _, rfl, rfl⟩⟩
  case steps =>
    rw [decimalAdjust_a, decimalAdjust_cy, decimalAdjust_ac, acAdd_daaCorrection, add_daaCorrection, daaHigh_eq,
      daaLow_eq]
    exact ⟨rfl, rfl, rfl⟩

end Sys2Proof.Machine
end

section
/-! O40, O41. The logical operations come to `logicTemplate` of their result; CMP to the flags of SUB-template
(42_logical sections 1 and 2). -/

namespace Sys2Proof.Machine

open Sys2Proof.Shape

/-- A result into A with the flags of a logical operation. -/
theorem logicTemplate_combines (op : Byte → Byte → Byte) (v : Byte) (s : State) :
    combines op v s (logicTemplate (op (s.reg .a) v) s) :=
  ⟨reg_setReg_same _ .a _, rfl, rfl, zspOf_flagsLogic _ _, logicTemplate_frame s _, rfl, rfl⟩

/-- CMP-template writes the flags a subtraction without borrow writes, and nothing else. -/
theorem cmpTemplate_compares (v : Byte) (s : State) : compares v s (cmpTemplate v s) := by
  refine ⟨?flags, changesOnly_setFlags s _ [] [], rfl, rfl⟩
  rw [cmpTemplate_flags]
  exact subTemplate_differenceFlags v false s

/-- Settles O40: the three operations are one template, of the bitwise and, exclusive or, or. -/
theorem logicCombines : Obligations.LogicCombines :=
  ⟨aluForms_of_template (logicTemplate_combines (fun a v => a &&& v)),
    aluForms_of_template (logicTemplate_combines (fun a v => a ^^^ v)),
    aluForms_of_template (logicTemplate_combines (fun a v => a ||| v))⟩

/-- Settles O41: the three forms share CMP-template. -/
theorem comparesOnlyFlags : Obligations.ComparesOnlyFlags := aluForms_of_template cmpTemplate_compares

end Sys2Proof.Machine
end

section
/-! O43. The rotates (42_logical R182 to R185). Each is an append of bits in the model and a pair of shifts in the
statement. Repeated, RLC turns the eight bits of A and RAL the nine of CY and A, and a ring of `w` bits turned `w` times
is as it was. -/

namespace Sys2Proof.Machine

open Sys2Proof.Shape

/-! ### Appends of bits as shifts -/

section

variable (a : Byte) (b : BitVec 1)

/-- A moved up one place, with `b` put in at bit 0. -/
theorem lowSeven_append_bit : a.extractLsb' 0 7 ++ b = (a <<< 1) ||| b.setWidth 8 := by
  refine BitVec.eq_of_getLsbD_eq fun i hi => ?_
  rw [BitVec.getLsbD_append]
  rcases i with _ | i
  · simp
  · obtain ⟨hlow, hbyte, hsucc⟩ : i < 7 ∧ i < 8 ∧ i + 1 < 8 := by omega
    simp [hlow, hbyte, hsucc]

/-- A moved down one place, with `b` put in at bit 7. -/
theorem bit_append_highSeven : b ++ a.extractLsb' 1 7 = (a >>> 1) ||| (b.setWidth 8 <<< 7) := by
  refine BitVec.eq_of_getLsbD_eq fun i hi => ?_
  rw [BitVec.getLsbD_append]
  rcases (show i < 7 ∨ i = 7 by omega) with hi | rfl
  · simp [hi]
  · simp

/-! The bit put in: bit 7 or bit 0 of A, or the carry. -/

theorem setWidth_bitSeven : (a.extractLsb' 7 1).setWidth 8 = a >>> 7 := by
  have := a.isLt
  apply BitVec.eq_of_toNat_eq
  simp [Nat.shiftRight_eq_div_pow]
  omega

theorem setWidth_bitZero : (a.extractLsb' 0 1).setWidth 8 = a &&& 1 := by
  apply BitVec.eq_of_toNat_eq
  simp
  omega

theorem setWidth_ofBool (c : Bool) : (BitVec.ofBool c).setWidth 8 = BitVec.ofNat 8 c.toNat := by cases c <;> rfl

end

/-! ### A ring of bits turned by one place -/

/-- Turned one place at a time, bit by bit from the top. -/
theorem iterate_rotateLeft_one {w : Nat} (x : BitVec w) (n : Nat) :
    (BitVec.rotateLeft · 1)^[n] x = x.rotateLeft n := by
  refine BitVec.eq_of_getMsbD_eq fun i hi => ?_
  induction n generalizing i with
  | zero => simp [BitVec.getMsbD_rotateLeft, hi, Nat.mod_eq_of_lt]
  | succ n ih =>
    have hmod : (1 + i) % w < w := Nat.mod_lt _ (by omega)
    rw [Function.iterate_succ_apply', BitVec.getMsbD_rotateLeft, ih _ hmod]
    simp [BitVec.getMsbD_rotateLeft, hi, hmod, Nat.add_assoc]

theorem rotateLeft_width {w : Nat} (x : BitVec w) : x.rotateLeft w = x := by
  rw [← BitVec.rotateLeft_mod_eq_rotateLeft, Nat.mod_self]
  exact (iterate_rotateLeft_one x 0).symm

/-- Where each step of `f` turns the ring `g` reads off the state, as many steps as the ring has bits restore it. -/
theorem ring_iterate_width {w : Nat} {f : State → State} {g : State → BitVec w}
    (h : ∀ s, g (f s) = (g s).rotateLeft 1) (s : State) : g (f^[w] s) = g s := by
  have hsemi : Function.Semiconj g f (BitVec.rotateLeft · 1) := h
  rw [hsemi.iterate_right w s, iterate_rotateLeft_one, rotateLeft_width]

/-! ### The rotates -/

/-- An instruction that answers a rotate, with its result and its new CY. -/
theorem rotates_of_template {i : Instr} {opcode : Byte} {r : Byte → Bool → Byte} {cy : Byte → Bool}
    (hencode : encode i = [opcode]) (hcosts : costs i 4)
    (hexec : ∀ s, exec i s = .next (rotateTemplate (r (s.reg .a) s.flags.cy) (cy (s.reg .a)) s)) :
    rotates i opcode r cy :=
  ⟨encodedAs_of_encode hencode, hcosts, fun s =>
    ⟨_, hexec s, reg_setReg_same _ .a _, rfl, changesOnly_setFlags_setA s _ _, rfl, rfl⟩⟩

section

variable (s : State)

theorem rotateLeft_eq : rotateLeft s =
    rotateTemplate ((s.reg .a <<< 1) ||| (s.reg .a >>> 7)) ((s.reg .a).getLsbD 7) s := by
  rw [← setWidth_bitSeven, ← lowSeven_append_bit]
  rfl

theorem rotateRight_eq : rotateRight s =
    rotateTemplate ((s.reg .a >>> 1) ||| ((s.reg .a &&& 1) <<< 7)) ((s.reg .a).getLsbD 0) s := by
  rw [← setWidth_bitZero, ← bit_append_highSeven]
  rfl

theorem rotateLeftCarry_eq : rotateLeftCarry s =
    rotateTemplate ((s.reg .a <<< 1) ||| BitVec.ofNat 8 s.flags.cy.toNat) ((s.reg .a).getLsbD 7) s := by
  rw [← setWidth_ofBool, ← lowSeven_append_bit]
  rfl

theorem rotateRightCarry_eq : rotateRightCarry s =
    rotateTemplate ((s.reg .a >>> 1) ||| (BitVec.ofNat 8 s.flags.cy.toNat <<< 7)) ((s.reg .a).getLsbD 0) s := by
  rw [← setWidth_ofBool, ← bit_append_highSeven]
  rfl

/-! ### Repeated rotates -/

theorem repeatExec_eq_iterate {i : Instr} {f : State → State} (h : ∀ u, exec i u = .next (f u)) (n : Nat) :
    repeatExec i n s = .next (f^[n] s) := by
  induction n generalizing s with
  | zero => rfl
  | succ n ih =>
    simp only [repeatExec, h s]
    exact ih (f s)

/-- Of two writes of A and CY the second counts. -/
theorem rotateTemplate_rotateTemplate (r r' : Byte) (c c' : Bool) :
    rotateTemplate r c (rotateTemplate r' c' s) = rotateTemplate r c s := rfl

/-- Steps that write A and CY only come, one after another, to one such step. -/
theorem iterate_eq_rotateTemplate {f : State → State}
    (h : ∀ u, f u = rotateTemplate ((f u).reg .a) (f u).flags.cy u) (n : Nat) :
    f^[n] s = rotateTemplate ((f^[n] s).reg .a) (f^[n] s).flags.cy s := by
  induction n with
  | zero => rfl
  | succ n ih =>
    rw [Function.iterate_succ_apply']
    calc f (f^[n] s)
      _ = rotateTemplate _ _ (f^[n] s) := h _
      _ = rotateTemplate _ _ (rotateTemplate _ _ s) := congrArg (rotateTemplate _ _) ih
      _ = rotateTemplate _ _ s := rotateTemplate_rotateTemplate s _ _ _ _

theorem rotateLeft_a : (rotateLeft s).reg .a = (s.reg .a).rotateLeft 1 := by
  rw [rotateLeft_eq]
  rfl

/-- RLC leaves in CY the bit it moves to bit 0. -/
theorem rotateLeft_cy : (rotateLeft s).flags.cy = ((rotateLeft s).reg .a).getLsbD 0 := by
  rw [rotateLeft_a, BitVec.getLsbD_rotateLeft]
  rfl

/-- Eight RLC, as one step. -/
theorem rotateLeft_eight_times : rotateLeft^[8] s = rotateTemplate (s.reg .a) ((s.reg .a).getLsbD 0) s := by
  have ha : (rotateLeft^[8] s).reg .a = s.reg .a := ring_iterate_width (g := (State.reg · .a)) rotateLeft_a s
  have hcy : (rotateLeft^[8] s).flags.cy = ((rotateLeft^[8] s).reg .a).getLsbD 0 := rotateLeft_cy (rotateLeft^[7] s)
  rw [iterate_eq_rotateTemplate s (fun _ => rfl) 8, hcy, ha]

end

/-- The nine bits RAL turns: CY above A. -/
def carryRing (s : State) : BitVec 9 := BitVec.ofBool s.flags.cy ++ s.reg .a

theorem carryRing_inj {s t : State} (h : carryRing s = carryRing t) :
    s.reg .a = t.reg .a ∧ s.flags.cy = t.flags.cy := by
  refine ⟨?a, ?cy⟩
  case a => simpa only [carryRing, BitVec.extractLsb'_append_eq_right] using congrArg (BitVec.extractLsb' 0 8) h
  case cy =>
    have hbit : BitVec.ofBool s.flags.cy = BitVec.ofBool t.flags.cy := by
      simpa only [carryRing, BitVec.extractLsb'_append_eq_left] using congrArg (BitVec.extractLsb' 8 1) h
    exact BitVec.ofBool_eq_iff_eq.mp hbit

theorem carryRing_rotateLeftCarry (s : State) : carryRing (rotateLeftCarry s) = (carryRing s).rotateLeft 1 := by
  refine BitVec.eq_of_getLsbD_eq fun i hi => ?_
  show (BitVec.ofBool ((s.reg .a).getLsbD 7) ++ ((s.reg .a).extractLsb' 0 7 ++ BitVec.ofBool s.flags.cy)).getLsbD i
    = ((BitVec.ofBool s.flags.cy ++ s.reg .a).rotateLeft 1).getLsbD i
  rw [BitVec.getLsbD_rotateLeft]
  simp only [BitVec.getLsbD_append]
  interval_cases i <;> simp

/-- Nine RAL change nothing. -/
theorem rotateLeftCarry_nine_times (s : State) : rotateLeftCarry^[9] s = s := by
  obtain ⟨ha, hcy⟩ := carryRing_inj (ring_iterate_width carryRing_rotateLeftCarry s)
  rw [iterate_eq_rotateTemplate s (fun _ => rfl) 9, ha, hcy]
  rfl

/-- Settles O43: each rotate by its shifts; eight RLC and nine RAL by the ring they turn. -/
theorem rotatesByOneBit : Obligations.RotatesByOneBit := by
  refine ⟨?rlc, ?rrc, ?ral, ?rar, fun s => ⟨?eightRlc, ?nineRal⟩⟩
  case rlc => exact rotates_of_template rfl (fun _ => rfl) fun s => congrArg Host.Outcome.next (rotateLeft_eq s)
  case rrc => exact rotates_of_template rfl (fun _ => rfl) fun s => congrArg Host.Outcome.next (rotateRight_eq s)
  case ral => exact rotates_of_template rfl (fun _ => rfl) fun s => congrArg Host.Outcome.next (rotateLeftCarry_eq s)
  case rar => exact rotates_of_template rfl (fun _ => rfl) fun s => congrArg Host.Outcome.next (rotateRightCarry_eq s)
  case eightRlc =>
    refine ⟨_, repeatExec_eq_iterate s (fun _ => rfl) 8, ?_⟩
    rw [rotateLeft_eight_times]
    exact ⟨rfl, rfl⟩
  case nineRal =>
    refine ⟨_, repeatExec_eq_iterate s (fun _ => rfl) 9, ?_⟩
    rw [rotateLeftCarry_nine_times]
    exact ⟨rfl, rfl⟩

end Sys2Proof.Machine
end

section
/-! O44. CMA, CMC and STC (42_logical R186 to R188): one write of A or of CY. -/

namespace Sys2Proof.Machine

section

variable (s : State)

theorem complementA_a : (complementA s).reg .a = s.reg .a ^^^ 0xFF := BitVec.xor_allOnes.symm

theorem complementA_complementA : complementA (complementA s) = s := by
  have h : ~~~ (complementA s).reg .a = s.reg .a := BitVec.not_not
  rw [complementA, h]
  rfl

end

/-- Settles O44: CMA is a register write, CMC and STC are flag writes. -/
theorem complementsAndSetCarry : Obligations.ComplementsAndSetCarry := by
  refine ⟨encodedAs_of_encode rfl, encodedAs_of_encode rfl, encodedAs_of_encode rfl, fun _ => rfl, fun _ => rfl,
    fun _ => rfl, fun s => ⟨?cma, ?cmc, ?stc⟩⟩
  case cma =>
    exact ⟨_, rfl, complementA_a s, changesOnly_setReg s .a _, rfl, ⟨rfl, rfl⟩,
      congrArg Host.Outcome.next (complementA_complementA s)⟩
  case cmc => exact ⟨_, rfl, rfl, changesOnly_setFlags s _ [] [], rfl, rfl⟩
  case stc => exact ⟨_, rfl, rfl, changesOnly_setFlags s _ [] [], rfl, rfl⟩

end Sys2Proof.Machine
end

section
/-! O45 to O47. Jumps, calls and returns (43_branch R200 to R208): a jump is one write of PC, a call a push and a write
of PC, a return a pop into PC; a conditional form is that or nothing. -/

namespace Sys2Proof.Machine

open Sys2Proof.Shape

/-! ### Encodings and cycles of the conditional forms and of RST -/

section

variable (cond : Cond) (addr : Word) (n : BitVec 3)

theorem encode_jcc :
    encode (Instr.jcc cond addr) = [0b11#2 ++ condCode cond ++ 0b010#3, loByte addr, hiByte addr] := by
  cases cond <;> rfl

theorem encode_ccc :
    encode (Instr.ccc cond addr) = [0b11#2 ++ condCode cond ++ 0b100#3, loByte addr, hiByte addr] := by
  cases cond <;> rfl

theorem encode_rcc : encode (Instr.rcc cond) = [0b11#2 ++ condCode cond ++ 0b000#3] := by cases cond <;> rfl

theorem encode_rst : encode (Instr.rst n) = [0b11#2 ++ n ++ 0b111#3] := by induction n using forall_rst <;> rfl

theorem costs_jcc : costs (Instr.jcc cond addr) 10 := fun _ => by cases cond <;> rfl

theorem costs_rst : costs (Instr.rst n) 11 := fun _ => by induction n using forall_rst <;> rfl

theorem cycles_ccc (taken : Bool) : cycles (Instr.ccc cond addr) taken = some (if taken then 17 else 11) := by
  cases cond <;> rfl

theorem cycles_rcc (taken : Bool) : cycles (Instr.rcc cond) taken = some (if taken then 11 else 5) := by
  cases cond <;> rfl

end

/-! ### What a jump, a call and a return leave -/

section

variable (s : State)

theorem changesOnly_setPc (v : Word) : changesOnly [] [] s (s.setPc v) :=
  ⟨fun _ _ => rfl, fun _ _ => rfl, rfl, rfl, rfl, rfl⟩

/-- A rule that writes PC: the target is there, and all else is as before. -/
theorem setPc_effect (v : Word) :
    (s.setPc v).pc = v ∧ changesOnly [] [] s (s.setPc v) ∧ (s.setPc v).flags = s.flags ∧ (s.setPc v).sp = s.sp :=
  ⟨rfl, changesOnly_setPc s v, rfl, rfl⟩

/-- Taken or not, a Jcc is one write of PC (R202). -/
theorem jumpIf_eq_setPc (cond : Cond) (addr : Word) :
    jumpIf cond addr s = s.setPc (if condHolds cond s.flags then addr else s.pc) := by
  unfold jumpIf
  split <;> rfl

theorem callTo_pushesAndJumps (addr : Word) : pushesAndJumps s.pc addr s (callTo addr s) := by
  refine ⟨?high, ?low, rfl, rfl, ?frame, rfl⟩
  case high => exact (load_push16 s s.pc _).trans ((if_neg (sub_one_ne_sub_two s.sp)).trans (if_pos rfl))
  case low => exact (load_push16 s s.pc _).trans (if_pos rfl)
  case frame => exact changesOnly_trans (changesOnly_push16 s s.pc) (changesOnly_setPc _ addr)

/-- RST n is a CALL of the address `8 * n` (R207). -/
theorem restart_eq_callTo (n : BitVec 3) : restart n s = callTo (BitVec.ofNat 16 (8 * n.toNat)) s :=
  congrArg (callTo · s) (restart_pc s n)

theorem returnFromCall_returns : returns s (returnFromCall s) :=
  ⟨rfl, rfl, changesOnly_trans (changesOnly_setSp s _) (changesOnly_setPc _ _), rfl⟩

/-- The top word of the stack depends on SP and the two bytes there alone. -/
theorem topWord_congr {s t : State} (hsp : t.sp = s.sp) (hlo : t.load s.sp = s.load s.sp)
    (hhi : t.load (s.sp + 1) = s.load (s.sp + 1)) : t.topWord = s.topWord := by
  rw [State.topWord, hsp, hlo, hhi]
  rfl

/-- What R205 asks of the subroutine: SP and the two stack bytes as the CALL left them. Then RET takes back the PC and
the SP of the state before the CALL. -/
theorem returnFromCall_after_callTo {u : State} (addr : Word) (hsp : u.sp = (callTo addr s).sp)
    (hlo : u.load (callTo addr s).sp = (callTo addr s).load (callTo addr s).sp)
    (hhi : u.load ((callTo addr s).sp + 1) = (callTo addr s).load ((callTo addr s).sp + 1)) :
    (returnFromCall u).pc = s.pc ∧ (returnFromCall u).sp = s.sp :=
  have htop : u.topWord = (callTo addr s).topWord := topWord_congr hsp hlo hhi
  ⟨htop.trans (topWord_push16 s s.pc), (congrArg (· + 2) hsp).trans (sub_two_add_two s.sp)⟩

end

/-! ### The statements -/

/-- Settles O45: JMP, Jcc and PCHL are each one write of PC. -/
theorem jumps : Obligations.Jumps := by
  refine ⟨fun _ => ⟨rfl, rfl, rfl, rfl, rfl, rfl, rfl, rfl⟩, rfl, rfl, rfl, rfl, rfl, rfl, rfl, rfl,
    fun cond addr s => ⟨?jmp, ?jcc, ?pchl⟩⟩
  case jmp => exact ⟨encodedAs_of_encode rfl, fun _ => rfl, _, rfl, setPc_effect s addr⟩
  case jcc =>
    refine ⟨encodedAs_of_encode (encode_jcc cond addr), costs_jcc cond addr, _, exec_jcc s cond addr, ?_⟩
    rw [jumpIf_eq_setPc]
    exact setPc_effect s _
  case pchl => exact ⟨encodedAs_of_encode rfl, fun _ => rfl, _, rfl, setPc_effect s _⟩

/-- Settles O46: a taken Ccc and RST are a CALL of their target, an untaken Ccc is nothing. -/
theorem callsPushTheReturnAddress : Obligations.CallsPushTheReturnAddress := by
  refine fun cond addr n s => ⟨?call, ?ccc, ?rst⟩
  case call => exact ⟨encodedAs_of_encode rfl, fun _ => rfl, _, rfl, callTo_pushesAndJumps s addr⟩
  case ccc =>
    refine ⟨encodedAs_of_encode (encode_ccc cond addr), cycles_ccc cond addr true, cycles_ccc cond addr false, _,
      exec_ccc s cond addr, fun h => ?taken, callIf_false s addr⟩
    case taken =>
      rw [callIf_true s addr h]
      exact callTo_pushesAndJumps s addr
  case rst =>
    refine ⟨encodedAs_of_encode (encode_rst n), costs_rst n, _, exec_rst s n, ?_⟩
    rw [restart_eq_callTo]
    exact callTo_pushesAndJumps s _

/-- Settles O47: a taken Rcc is a RET, an untaken one is nothing; the round trip by the word a push leaves on top. -/
theorem returnsPopThePc : Obligations.ReturnsPopThePc := by
  refine ⟨encodedAs_of_encode rfl, fun _ => rfl, fun s => ⟨_, rfl, returnFromCall_returns s⟩, fun cond s => ?rcc,
    fun addr s u => ?roundTrip⟩
  case rcc =>
    refine ⟨encodedAs_of_encode (encode_rcc cond), cycles_rcc cond true, cycles_rcc cond false, _, exec_rcc s cond,
      fun h => ?taken, returnIf_false s⟩
    case taken =>
      rw [returnIf_true s h]
      exact returnFromCall_returns s
  case roundTrip =>
    exact ⟨_, rfl, fun hsp hlo hhi => ⟨_, rfl, returnFromCall_after_callTo s addr hsp hlo hhi⟩⟩

end Sys2Proof.Machine
end

section
/-! O49, O50. PUSH and POP (44_stack R221 to R224): the two bytes a push stores and a pop reads, and the halves of a pair
or of PSW they are. -/

namespace Sys2Proof.Machine

/-! ### Encodings and cycles -/

section

variable (p : Pair)

theorem encode_push : encode (Instr.push p) = [0b11#2 ++ pairCode p ++ 0b0101#4] := by cases p <;> rfl

theorem encode_pop : encode (Instr.pop p) = [0b11#2 ++ pairCode p ++ 0b0001#4] := by cases p <;> rfl

theorem costs_push : costs (Instr.push p) 11 := fun _ => by cases p <;> rfl

theorem costs_pop : costs (Instr.pop p) 10 := fun _ => by cases p <;> rfl

end

/-! ### The flag byte (10_state R29) -/

theorem packFlags_toNat (f : Flags) :
    (packFlags f).toNat = f.z.toNat + 2 * f.s.toNat + 4 * f.p.toNat + 8 * f.cy.toNat + 16 * f.ac.toNat := by
  obtain ⟨z, s, p, cy, ac⟩ := f
  revert z s p cy ac
  decide

/-! ### A push and a pop -/

section

variable (s : State)

/-- A rule that pushes two bytes: each is at its address, SP is lowered, and all else is as before. -/
theorem push16_effect (hi lo : Byte) :
    let t := s.push16 (joinBytes hi lo)
    t.load (s.sp - 1) = hi ∧ t.load (s.sp - 2) = lo ∧ t.sp = s.sp - 2 ∧ t.pc = s.pc ∧
      changesOnly [] [s.sp - 1, s.sp - 2] s t ∧ t.flags = s.flags := by
  refine ⟨?high, ?low, rfl, rfl, changesOnly_push16 s _, rfl⟩
  case high => rw [load_push16, if_neg (sub_one_ne_sub_two s.sp), if_pos rfl, hiByte_joinBytes]
  case low => rw [load_push16, if_pos rfl, loByte_joinBytes]

theorem hiByte_topWord : hiByte s.topWord = s.load (s.sp + 1) := hiByte_joinBytes _ _

theorem loByte_topWord : loByte s.topWord = s.load s.sp := loByte_joinBytes _ _

theorem changesOnly_popPair (p : Pair) : changesOnly [pairHi p, pairLo p] [] s (popPair p s) :=
  changesOnly_trans (changesOnly_setSp s _) (changesOnly_setPair _ p _)

theorem popPair_lo (p : Pair) : (popPair p s).reg (pairLo p) = s.load s.sp :=
  (reg_setPair_lo _ p _).trans (loByte_topWord s)

theorem popPair_hi (p : Pair) : (popPair p s).reg (pairHi p) = s.load (s.sp + 1) :=
  (reg_setPair_hi _ p _).trans (hiByte_topWord s)

theorem changesOnly_popPsw : changesOnly [.a] [] s (popPsw s) :=
  changesOnly_trans (changesOnly_setSp s _) (changesOnly_setFlags_setA _ _ _)

theorem popPsw_a : (popPsw s).reg .a = s.load (s.sp + 1) := hiByte_topWord s

theorem popPsw_flags : (popPsw s).flags = unpackFlags (s.load s.sp) := congrArg unpackFlags (loByte_topWord s)

end

/-! ### The statements -/

/-- Settles O49: a pair and PSW are each a word of two bytes, and PUSH is a push of it. -/
theorem pushesStoreTheWord : Obligations.PushesStoreTheWord := by
  refine ⟨fun p s => ?pair, encodedAs_of_encode rfl, fun _ => rfl, fun s => ?psw⟩
  case pair => exact ⟨encodedAs_of_encode (encode_push p), costs_push p, _, exec_push s p, push16_effect s _ _⟩
  case psw =>
    obtain ⟨hhigh, hlow, hrest⟩ := push16_effect s (s.reg .a) (packFlags s.flags)
    exact ⟨_, rfl, hhigh, (congrArg BitVec.toNat hlow).trans (packFlags_toNat s.flags), hrest⟩

/-- Settles O50: the halves of the popped word go to the pair, or to the flags and A. -/
theorem popsLoadTheWord : Obligations.PopsLoadTheWord := by
  refine ⟨fun p s => ?pair, encodedAs_of_encode rfl, fun _ => rfl, fun s => ⟨_, rfl, popPsw_a s, ?psw⟩⟩
  case pair =>
    exact ⟨encodedAs_of_encode (encode_pop p), costs_pop p, _, exec_pop s p, popPair_lo s p, popPair_hi s p, rfl, rfl,
      changesOnly_popPair s p, rfl⟩
  case psw =>
    rw [popPsw_flags]
    exact ⟨rfl, rfl, rfl, rfl, rfl, rfl, rfl, changesOnly_popPsw s⟩

end Sys2Proof.Machine
end

section
/-! O52. XTHL and SPHL (44_stack R225, R228): XTHL is two stores and two register writes, of values all read before
them, so a second one puts everything back. -/

namespace Sys2Proof.Machine

section

variable (s : State)

theorem load_exchangeTopHl_sp : (exchangeTopHl s).load s.sp = s.reg .l := by
  rw [load_exchangeTopHl, if_neg (ne_add_one s.sp), if_pos rfl]

theorem load_exchangeTopHl_sp_add_one : (exchangeTopHl s).load (s.sp + 1) = s.reg .h := by
  rw [load_exchangeTopHl, if_pos rfl]

theorem load_exchangeTopHl_ne {x : Word} (hhigh : x ≠ s.sp + 1) (hlow : x ≠ s.sp) :
    (exchangeTopHl s).load x = s.load x := by
  rw [load_exchangeTopHl, if_neg hhigh, if_neg hlow]

theorem changesOnly_exchangeTopHl : changesOnly [.h, .l] [s.sp, s.sp + 1] s (exchangeTopHl s) :=
  have hstores := changesOnly_trans (changesOnly_store s s.sp (s.reg .l)) (changesOnly_store _ (s.sp + 1) (s.reg .h))
  have hregs := changesOnly_trans (changesOnly_setReg _ .l (s.load s.sp)) (changesOnly_setReg _ .h (s.load (s.sp + 1)))
  changesOnly_mono (changesOnly_trans hstores hregs) (by decide)

/-! Two XTHL in a row. -/

theorem reg_exchangeTopHl_twice (r : Reg) : (exchangeTopHl (exchangeTopHl s)).reg r = s.reg r := by
  cases r
  case h => exact load_exchangeTopHl_sp_add_one s
  case l => exact load_exchangeTopHl_sp s
  all_goals rfl

theorem load_exchangeTopHl_twice (x : Word) : (exchangeTopHl (exchangeTopHl s)).load x = s.load x := by
  by_cases hhigh : x = s.sp + 1
  case pos => exact hhigh ▸ load_exchangeTopHl_sp_add_one (exchangeTopHl s)
  case neg =>
    by_cases hlow : x = s.sp
    case pos => exact hlow ▸ load_exchangeTopHl_sp (exchangeTopHl s)
    case neg => exact (load_exchangeTopHl_ne (exchangeTopHl s) hhigh hlow).trans (load_exchangeTopHl_ne s hhigh hlow)

theorem changesOnly_exchangeTopHl_twice : changesOnly [] [] s (exchangeTopHl (exchangeTopHl s)) :=
  ⟨fun r _ => reg_exchangeTopHl_twice s r, fun x _ => load_exchangeTopHl_twice s x, sameControl_refl⟩

end

/-- Settles O52: XTHL by what it leaves in registers and memory, once and twice; SPHL is a write of SP. -/
theorem xthlAndSphl : Obligations.XthlAndSphl := by
  refine ⟨encodedAs_of_encode rfl, fun _ => rfl, encodedAs_of_encode rfl, fun _ => rfl, fun s => ⟨?xthl, ?sphl⟩⟩
  case xthl =>
    exact ⟨_, rfl, rfl, rfl, load_exchangeTopHl_sp s, load_exchangeTopHl_sp_add_one s, changesOnly_exchangeTopHl s, rfl,
      ⟨rfl, rfl⟩, _, rfl, changesOnly_exchangeTopHl_twice s, rfl, rfl, rfl⟩
  case sphl => exact ⟨_, rfl, rfl, rfl, changesOnly_setSp s s.hl, rfl⟩

end Sys2Proof.Machine
end

section
/-! O53, O54. IN, OUT and NOP, whose rule is empty; EI, DI and HLT, each one write of control state (44_stack R226,
R227, R229 to R232), and the outcome of the step that fetches HLT. -/

namespace Sys2Proof.Machine

/-- Settles O53: the rules of IN, OUT and NOP are the identity on the state after the fetch. -/
theorem portsAndNopChangeNothing : Obligations.PortsAndNopChangeNothing := by
  refine fun port s => ⟨?inPort, ?outPort, ?nop⟩
  all_goals exact ⟨encodedAs_of_encode rfl, fun _ => rfl, rfl⟩

/-! ### The step that fetches HLT (60_exceptions R244) -/

theorem fetchInstr_of_hlt {s : State} (h : s.load s.pc = 0x76) : fetchInstr s = .hlt := by
  rw [fetchInstr, h]
  rfl

/-- A step onto an HLT halts in the state after the fetch of its one byte. -/
theorem step_hlt {s : State} (hrun : s.run = .running) (h : s.load s.pc = 0x76) :
    step s = .next (s.setPc (s.pc + 1)).halt := by
  rw [step_running hrun, fetchInstr_of_hlt h, afterFetch, h]
  rfl

/-- The outcome of a step that ends in RUN = HALTED is Halted with the cycles of HLT (00_scope R9). -/
theorem coreStep_of_halted {s t : State} (h : step s = .next t) (ht : t.run = .halted) :
    coreStep s = .halted t haltCycles := by
  simp [coreStep, stepState, h, ht]

/-- Settles O54: EI and DI write INTE, HLT writes RUN; the outcome by `step_hlt`. -/
theorem machineControl : Obligations.MachineControl := by
  refine ⟨encodedAs_of_encode rfl, encodedAs_of_encode rfl, encodedAs_of_encode rfl, fun _ => rfl, fun _ => rfl,
    fun _ => rfl, fun s => ⟨?ei, ?di, ?hlt, fun hrun h => ?outcome⟩⟩
  case outcome => exact coreStep_of_halted (step_hlt hrun h) rfl
  all_goals rfl

end Sys2Proof.Machine
end

section
/-! O6 and O7. Every instruction and every step completes (60_exceptions R255, 20_memory R61), and a HALTED or TRAPPED
core keeps its state for any number of steps (60_exceptions R252). -/

namespace Sys2Proof.Machine

variable {s : State}

/-! ### Totality -/

theorem exec_next (i : Instr) (s : State) : ∃ t, exec i s = .next t :=
  let ⟨t, ht, _⟩ := exec_controlWrite s i
  ⟨t, ht⟩

/-- Outside RUNNING a step has no transition to make: both terminal values of RUN answer the state itself. -/
theorem step_terminal (h : s.run ≠ .running) : step s = .next s := by
  cases hrun : s.run with
  | running => exact absurd hrun h
  | halted => exact step_halted hrun
  | trapped => exact step_trapped hrun

theorem step_next (s : State) : ∃ t, step s = .next t := by
  by_cases hrun : s.run = .running
  · rw [step_running hrun]
    exact exec_next _ _
  · exact ⟨s, step_terminal hrun⟩

/-- Settles O6: a step is `exec` of the fetched instruction or the terminal step, and both always answer a next
state. -/
theorem nothingFaults : Obligations.NothingFaults := ⟨exec_next, step_next⟩

/-! ### Absorption -/

/-- A state that one step leaves alone is where every run from it stands. -/
theorem reaches_of_step_self (h : step s = .next s) : ∀ k, reaches k s s
  | 0 => rfl
  | k + 1 => reaches_succ h (reaches_of_step_self h k)

/-- Settles O7: one step by `step_terminal`, any number by induction on it, and the outcome is read off the unchanged
state. -/
theorem terminalStatesAbsorb : Obligations.TerminalStatesAbsorb := by
  intro s h
  have hstep : step s = .next s := step_terminal h
  exact ⟨hstep, reaches_of_step_self hstep, fun hrun => ⟨haltCycles, coreStep_of_halted hstep hrun⟩,
    fun hrun => coreStep_of_trapped hstep hrun⟩

end Sys2Proof.Machine
end

section
/-! O3. `boot` (70_reset R272) places the image (20_memory R67): what `writeImage` reads back inside the image's range,
what it leaves unchanged outside it, and which launches `boot` accepts. -/

namespace Sys2Proof.Machine

/-! ### The loader's port -/

/-- The port writes memory and nothing else. -/
theorem writeImage_frame (m : List Host.Cell) (image : List Byte) :
    ∀ (s : State) (offset : Nat), { s.writeImage offset image with mem := m } = { s with mem := m } := by
  induction image with
  | nil => exact fun _ _ => rfl
  | cons b rest ih => exact fun s offset => ih (s.store (BitVec.ofNat 16 offset) b) (offset + 1)

theorem toNat_addr {n : Nat} (h : n < 65536) : (BitVec.ofNat 16 n).toNat = n :=
  (BitVec.toNat_ofNat n 16).trans (Nat.mod_eq_of_lt h)

/-- An address outside the image's range keeps its byte; the bound says that the range does not wrap. -/
theorem load_writeImage_outside {a : Word} (image : List Byte) :
    ∀ (s : State) (offset : Nat), offset + image.length ≤ 65536 →
      (a.toNat < offset ∨ offset + image.length ≤ a.toNat) → (s.writeImage offset image).load a = s.load a := by
  induction image with
  | nil => exact fun _ _ _ _ => rfl
  | cons b rest ih =>
    intro s offset hfit hout
    rw [List.length_cons] at hfit hout
    have hne : a ≠ BitVec.ofNat 16 offset := by
      rintro rfl
      rw [toNat_addr (by omega)] at hout
      omega
    calc (s.writeImage offset (b :: rest)).load a
        = (s.store (BitVec.ofNat 16 offset) b).load a := ih _ _ (by omega) (by omega)
      _ = s.load a := load_store_ne s b hne

/-- Each byte of the image reads back at its address: the first one because the rest is written above it. -/
theorem load_writeImage_inside (image : List Byte) :
    ∀ (s : State) (offset : Nat), offset + image.length ≤ 65536 → ∀ (i : Nat) (h : i < image.length),
      (s.writeImage offset image).load (BitVec.ofNat 16 (offset + i)) = image[i] := by
  induction image with
  | nil => exact fun _ _ _ _ h => absurd h (Nat.not_lt_zero _)
  | cons b rest ih =>
    intro s offset hfit i hi
    rw [List.length_cons] at hfit hi
    cases i with
    | zero =>
      have hbelow : (BitVec.ofNat 16 offset).toNat < offset + 1 := by
        rw [toNat_addr (by omega)]
        omega
      calc (s.writeImage offset (b :: rest)).load (BitVec.ofNat 16 offset)
          = (s.store (BitVec.ofNat 16 offset) b).load (BitVec.ofNat 16 offset) :=
            load_writeImage_outside rest _ _ (by omega) (.inl hbelow)
        _ = b := load_store_same s _ b
    | succ j =>
      rw [← Nat.add_assoc, Nat.add_right_comm]
      exact ih _ (offset + 1) (by omega) j (by omega)

/-! ### Boot -/

theorem launch_wellFormed_iff (l : Launch) : l.wellFormed = true ↔ l.offset + l.image.length ≤ 65536 :=
  decide_eq_true_iff

theorem boot_of_fits {l : Launch} (h : l.offset + l.image.length ≤ 65536) :
    boot l = some (State.reset.writeImage l.offset l.image) :=
  if_pos ((launch_wellFormed_iff l).mpr h)

theorem boot_of_overrun {l : Launch} (h : 65536 < l.offset + l.image.length) : boot l = none :=
  if_neg fun hwf => absurd ((launch_wellFormed_iff l).mp hwf) (Nat.not_le.mpr h)

/-- Settles O3: `boot` answers `writeImage` on the reset state exactly when the image fits; its bytes and its frame by
the lemmas on `writeImage`, by induction on the image. -/
theorem bootPlacesImage : Obligations.BootPlacesImage := by
  intro l
  refine ⟨fun hfit => ⟨_, boot_of_fits hfit, ?frame, ?pc, ?inside, ?outside⟩, boot_of_overrun⟩
  case frame => exact writeImage_frame [] l.image State.reset l.offset
  case pc => exact congrArg State.pc (writeImage_frame [] l.image State.reset l.offset)
  case inside => exact load_writeImage_inside l.image State.reset l.offset hfit
  case outside =>
    intro a hout
    exact (load_writeImage_outside l.image State.reset l.offset hfit hout).trans (reset_load a)

end Sys2Proof.Machine
end

section
/-! O12, O13, O4 and O5. The decoder against the encoder in the other direction, the bytes of what it answers, and the
instruction a step fetches and runs (30_encoding R80, R81, R90, R94). -/

namespace Sys2Proof

open Sys2Proof.Machine

/-! ### What a decoding takes and answers -/

/-- A decoding reads one, two or three bytes, as its opcode byte calls for, and leaves the rest. -/
theorem decode_cases {bytes rest : List Byte} {i : Instr} (h : decode bytes = .ok (i, rest)) :
    (∃ op, opcodeLength op = 1 ∧ bytes = op :: rest ∧ i = decodeBytes op 0 0) ∨
    (∃ op b2, opcodeLength op = 2 ∧ bytes = op :: b2 :: rest ∧ i = decodeBytes op b2 0) ∨
    (∃ op b2 b3, opcodeLength op = 3 ∧ bytes = op :: b2 :: b3 :: rest ∧ i = decodeBytes op b2 b3) := by
  unfold decode at h
  split at h
  · cases h
  · next op tail =>
    split at h
    · next hop => cases h; exact .inl ⟨op, hop, rfl, rfl⟩
    · next b2 _ hop => cases h; exact .inr (.inl ⟨op, b2, hop, rfl, rfl⟩)
    · next b2 b3 _ hop => cases h; exact .inr (.inr ⟨op, b2, b3, hop, rfl, rfl⟩)
    · cases h

/-- A string that decodes with nothing left over is one instruction. -/
theorem wellFormedBytes_of_decode {bytes : List Byte} {i : Instr} (h : decode bytes = .ok (i, [])) :
    wellFormedBytes bytes = true := by
  rcases decode_cases h with ⟨op, hop, rfl, -⟩ | ⟨op, b2, hop, rfl, -⟩ | ⟨op, b2, b3, hop, rfl, -⟩ <;>
    simp [wellFormedBytes, hop]

theorem wellFormed_all (i : Instr) : i.wellFormed = true :=
  wellFormedBytes_of_decode (by simpa using decode_encode i [])

/-- Settles O12, by `decode_encode`; with nothing after the encoding, that is well-formedness. -/
theorem decodeOfEncode : Obligations.DecodeOfEncode := fun i rest => ⟨wellFormed_all i, decode_encode i rest⟩

/-! ### The bytes of what a row decodes to -/

/-- An instruction keeps the operand bytes it was decoded from, as many as its length calls for. -/
theorem operandBytes_decodeBytes (op b2 b3 : Byte) :
    (decodeBytes op b2 b3).operandBytes = [b2, b3].take ((decodeBytes op b2 b3).length - 1) := by
  unfold decodeBytes
  generalize op.extractLsb' 0 4 = lo
  split
  case h_1 => unfold gridRow0; split <;> simp [Instr.operandBytes, Instr.length, Instr.format]
  case h_2 => unfold gridRow1; split <;> simp [Instr.operandBytes, Instr.length, Instr.format]
  case h_3 => unfold gridRow2; split <;> simp [Instr.operandBytes, Instr.length, Instr.format]
  case h_4 => unfold gridRow3; split <;> simp [Instr.operandBytes, Instr.length, Instr.format]
  case h_13 => unfold gridRowC; split <;> simp [Instr.operandBytes, Instr.length, Instr.format]
  case h_14 => unfold gridRowD; split <;> simp [Instr.operandBytes, Instr.length, Instr.format]
  case h_15 => unfold gridRowE; split <;> simp [Instr.operandBytes, Instr.length, Instr.format]
  case h_16 => unfold gridRowF; split <;> simp [Instr.operandBytes, Instr.length, Instr.format]
  -- the rows without an operand byte
  all_goals
    simp only [gridRow4, gridRow5, gridRow6, gridRow7, gridRow8, gridRow9, gridRowA, gridRowB]
    split <;> rfl

/-- Encoding a decoded row gives back the bytes the row read. -/
theorem encode_decodeBytes (op b2 b3 : Byte) :
    encode (decodeBytes op b2 b3) = [op, b2, b3].take (opcodeLength op) := by
  rw [encode, opcode_decodeBytes, operandBytes_decodeBytes, length_decodeBytes]
  rcases opcodeLength_cases op with hop | hop | hop <;> rw [hop] <;> rfl

/-- Settles O13, by the length its opcode byte calls for. -/
theorem encodeOfDecode : Obligations.EncodeOfDecode := by
  intro bytes i rest h
  rcases decode_cases h with ⟨op, hop, rfl, rfl⟩ | ⟨op, b2, hop, rfl, rfl⟩ | ⟨op, b2, b3, hop, rfl, rfl⟩
  all_goals
    rw [encode_decodeBytes, hop]
    rfl

/-- Three bytes always hold an instruction: the row of the first one, which takes its own length and leaves the rest. -/
theorem decode_three_bytes (op b2 b3 : Byte) :
    decode [op, b2, b3] = .ok (decodeBytes op b2 b3, [op, b2, b3].drop (opcodeLength op)) := by
  have h := decode_encode (decodeBytes op b2 b3) ([op, b2, b3].drop (opcodeLength op))
  rwa [encode_decodeBytes, List.take_append_drop] at h

end Sys2Proof

namespace Sys2Proof.Machine

/-! ### The instruction fetched (30_encoding R90) -/

theorem decode_fetchBytes (s : State) :
    decode (fetchBytes s) = .ok (fetchInstr s, (fetchBytes s).drop (opcodeLength (s.load s.pc))) :=
  decode_three_bytes _ _ _

theorem step_fetchInstr {s : State} (hrun : s.run = .running) :
    step s = exec (fetchInstr s) (s.setPc (s.pc + BitVec.ofNat 16 (fetchInstr s).length)) := by
  rw [step_running hrun, length_fetchInstr]
  rfl

/-- Settles O4: the bytes at PC decode to `fetchInstr`, and to nothing else. -/
theorem stepRunsDecoded : Obligations.StepRunsDecoded := by
  refine ⟨fun s => ⟨_, _, decode_fetchBytes s⟩, fun s i rest h => ⟨wellFormed_all i, fun hrun => ?step⟩⟩
  case step =>
    rw [decode_fetchBytes] at h
    cases h
    exact step_fetchInstr hrun

/-- The bytes placed are the bytes fetched. -/
theorem fetchBytes_withFetchWord (s : State) (nbits w : Nat) :
    fetchBytes (s.withFetchWord nbits w)
      = [BitVec.ofNat 8 (w % 2 ^ nbits), BitVec.ofNat 8 (w % 2 ^ nbits / 256),
          BitVec.ofNat 8 (w % 2 ^ nbits / 65536)] := by
  have hpc : (s.withFetchWord nbits w).pc = s.pc := rfl
  simp only [fetchBytes, hpc, load_withFetchWord, if_true, ne_add_one, ne_add_two, add_one_ne_add_two,
    (ne_add_one s.pc).symm, if_false]

/-- Settles O5: the host reads a row's bits by the decoder of the fetch, from the bytes that the placing puts there. -/
theorem placedWordRuns : Obligations.PlacedWordRuns := by
  intro s nbits w
  refine ⟨fetchInstr (s.withFetchWord nbits w), ?decodes, step_fetchInstr rfl⟩
  case decodes =>
    simp only [decodeTableWord, ← fetchBytes_withFetchWord s nbits w, decode_fetchBytes]

end Sys2Proof.Machine
end

section
/-! O19, O21, O23 and O24. The flags of a 16-bit intermediate, the flag byte, words of memory and the stack primitives
(41_arithmetic R143, 10_state R29, 20_memory R53, 44_stack R220). -/

namespace Sys2Proof.Machine

/-! ### The flags of an intermediate (41_arithmetic R143) -/

theorem loByte_eq_ofNat (t : Word) : loByte t = BitVec.ofNat 8 t.toNat :=
  BitVec.eq_of_toNat_eq ((loByte_toNat t).trans (BitVec.toNat_ofNat _ 8).symm)

theorem zspOf_flagsArith (t : Word) (f : Flags) : zspOf (BitVec.ofNat 8 t.toNat) (flagsArith t f) := by
  rw [← loByte_eq_ofNat]
  exact zspOf_flagsZSP _ _

section

variable (a v : Byte) (c : Bool) (f : Flags)

theorem flagsArith_sum_cy :
    (flagsArith (BitVec.ofNat 16 (a.toNat + v.toNat + c.toNat)) f).cy = decide (256 ≤ a.toNat + v.toNat + c.toNat) := by
  have ha := a.isLt
  have hv := v.isLt
  have hc := c.toNat_le
  rw [flagsArith_cy, BitVec.toNat_ofNat, Nat.mod_eq_of_lt (by omega)]
  rfl

/-- The subtraction modulo 65536 is above 0xFF exactly when it wraps below zero. -/
theorem flagsArith_difference_cy :
    (flagsArith (BitVec.ofNat 16 (65536 + a.toNat - v.toNat - c.toNat)) f).cy
      = decide (a.toNat < v.toNat + c.toNat) := by
  have ha := a.isLt
  have hv := v.isLt
  have hc := c.toNat_le
  rw [flagsArith_cy, BitVec.toNat_ofNat]
  exact decide_eq_decide.mpr (by omega)

end

/-- Settles O19: Z, S and P by `zspOf_flagsZSP` of the low byte, CY by bounds on the intermediate. -/
theorem flagsOfTheIntermediate : Obligations.FlagsOfTheIntermediate :=
  ⟨fun t f => ⟨zspOf_flagsArith t f, flagsArith_cy t f, flagsArith_ac t f⟩,
    fun a v c f => ⟨flagsArith_sum_cy a v c f, flagsArith_difference_cy a v c f⟩⟩

/-! ### The flag byte (10_state R29) -/

theorem unpackFlags_packFlags (f : Flags) : unpackFlags (packFlags f) = f := by
  obtain ⟨z, s, p, cy, ac⟩ := f
  revert z s p cy ac
  decide

/-- The byte packed again bit by bit: bits 0 to 4 are those of `b`, bits 5 to 7 the fixed zeros. -/
theorem packFlags_unpackFlags (b : Byte) : packFlags (unpackFlags b) = b &&& 0x1F := by
  refine BitVec.eq_of_getLsbD_eq fun i hi => ?_
  simp only [packFlags, unpackFlags, pswFixedBits, BitVec.getLsbD_append]
  interval_cases i <;> simp

/-- Settles O21: `pack` by `packFlags_toNat`, `unpack` by its definition. -/
theorem flagByteLayout : Obligations.FlagByteLayout :=
  ⟨packFlags_toNat, unpackFlags_packFlags, packFlags_unpackFlags, fun _ => rfl⟩

/-! ### Words of memory (20_memory R53) -/

section

variable (s : State) (a v : Word)

theorem load_store16_lo : (s.store16 a v).load a = loByte v := by
  rw [load_store16, if_neg (ne_add_one a), if_pos rfl]

theorem load_store16_hi : (s.store16 a v).load (a + 1) = hiByte v := by
  rw [load_store16, if_pos rfl]

theorem load_store16_ne {x : Word} (hlo : x ≠ a) (hhi : x ≠ a + 1) : (s.store16 a v).load x = s.load x := by
  rw [load_store16, if_neg hhi, if_neg hlo]

theorem load16_store16 : (s.store16 a v).load16 a = v := by
  rw [State.load16, load_store16_hi, load_store16_lo, joinBytes_hi_lo]

end

/-- Settles O23: both halves by `load_store16`; the wrap is the address `0xFFFF + 1`. -/
theorem wordsAreLittleEndian : Obligations.WordsAreLittleEndian := fun s a v =>
  ⟨rfl, load16_store16 s a v, load_store16_lo s a v, load_store16_hi s a v, fun _ => load_store16_ne s a v, rfl,
    load_store16_hi s 0xFFFF v⟩

/-! ### The stack primitives (44_stack R220) -/

section

variable (s : State) (v : Word)

theorem load_push16_lo : (s.push16 v).load (s.sp - 2) = loByte v := by
  rw [load_push16, if_pos rfl]

theorem load_push16_hi : (s.push16 v).load (s.sp - 1) = hiByte v := by
  rw [load_push16, if_neg (sub_one_ne_sub_two s.sp), if_pos rfl]

theorem load_push16_ne {x : Word} (hhi : x ≠ s.sp - 1) (hlo : x ≠ s.sp - 2) : (s.push16 v).load x = s.load x := by
  rw [load_push16, if_neg hlo, if_neg hhi]

/-- A push leaves the memory of a word write at SP-2, though it writes the high byte first. -/
theorem load_push16_eq_store16 (x : Word) : (s.push16 v).load x = (s.store16 (s.sp - 2) v).load x := by
  rw [load_push16, load_store16, sub_two_add_one]
  by_cases hlo : x = s.sp - 2
  · rw [if_pos hlo, if_neg (hlo ▸ (sub_one_ne_sub_two s.sp).symm), if_pos hlo]
  · rw [if_neg hlo, if_neg hlo]

end

/-- Settles O24: memory by `load_push16`, the word by `topWord_push16`, SP because `-2` and `+2` cancel. -/
theorem stackRoundTrip : Obligations.StackRoundTrip := fun s v =>
  ⟨load_push16_hi s v, load_push16_lo s v, rfl, fun _ => load_push16_ne s v, load_push16_eq_store16 s v, rfl, rfl,
    fun _ => rfl, topWord_push16 s v, sub_two_add_two s.sp⟩

end Sys2Proof.Machine
end

section
/-! O36 and O37. The pair-coded operand as a destination, and INX, DCX and DAD as one write of it (41_arithmetic R160 to
R162). -/

namespace Sys2Proof.Machine

/-! ### Encodings and cycles -/

/-- A property of the four pair-coded operands (30_encoding R83), checked operand by operand. -/
theorem forall_rp {motive : Rp → Prop} (h_bc : motive (.pair .bc)) (h_de : motive (.pair .de))
    (h_hl : motive (.pair .hl)) (h_sp : motive .sp) (rp : Rp) : motive rp :=
  match rp with
  | .pair .bc => h_bc
  | .pair .de => h_de
  | .pair .hl => h_hl
  | .sp => h_sp

section

variable (rp : Rp)

theorem encode_inx : encode (Instr.inx rp) = [0b00#2 ++ rpCode rp ++ 0b0011#4] := by
  induction rp using forall_rp <;> rfl

theorem encode_dcx : encode (Instr.dcx rp) = [0b00#2 ++ rpCode rp ++ 0b1011#4] := by
  induction rp using forall_rp <;> rfl

theorem encode_dad : encode (Instr.dad rp) = [0b00#2 ++ rpCode rp ++ 0b1001#4] := by
  induction rp using forall_rp <;> rfl

theorem costs_inx : costs (Instr.inx rp) 5 := fun _ => by induction rp using forall_rp <;> rfl

theorem costs_dcx : costs (Instr.dcx rp) 5 := fun _ => by induction rp using forall_rp <;> rfl

theorem costs_dad : costs (Instr.dad rp) 10 := fun _ => by induction rp using forall_rp <;> rfl

end

/-! ### A pair or SP written -/

section

variable (s : State) (rp : Rp) (v : Word)

theorem rp_setRp_same : (s.setRp rp v).rp rp = v := by
  rcases rp with p | _
  · exact pair_setPair_same s p v
  · rfl

@[simp] theorem setRp_flags : (s.setRp rp v).flags = s.flags := by cases rp <;> rfl

@[simp] theorem setRp_pc : (s.setRp rp v).pc = s.pc := by cases rp <;> rfl

@[simp] theorem setRp_mem : (s.setRp rp v).mem = s.mem := by cases rp <;> rfl

theorem setRp_sp_of_ne (h : rp ≠ .sp) : (s.setRp rp v).sp = s.sp := by
  rcases rp with p | _
  · rfl
  · exact absurd rfl h

theorem changesOnly_setRp : changesOnly (rpRegs rp) [] s (s.setRp rp v) := by
  rcases rp with p | _
  · exact changesOnly_setPair s p v
  · exact changesOnly_setSp s v

/-- What INX, DCX and LXI do to the state around their operand. -/
theorem setRp_effect :
    (s.setRp rp v).rp rp = v ∧ changesOnly (rpRegs rp) [] s (s.setRp rp v) ∧ (s.setRp rp v).flags = s.flags ∧
      (s.setRp rp v).pc = s.pc ∧ (rp ≠ .sp → (s.setRp rp v).sp = s.sp) :=
  ⟨rp_setRp_same s rp v, changesOnly_setRp s rp v, setRp_flags s rp v, setRp_pc s rp v, setRp_sp_of_ne s rp v⟩

end

/-! ### The two steps of INX and DCX -/

section

variable (s : State) (r : Reg) (p : Pair) (h l : Byte)

theorem setReg_self : s.setReg r (s.reg r) = s := by cases r <;> rfl

theorem setReg_halves_comm :
    (s.setReg (pairLo p) l).setReg (pairHi p) h = (s.setReg (pairHi p) h).setReg (pairLo p) l := by
  cases p <;> rfl

theorem loByte_join_add_one : loByte (joinBytes h l + 1) = l + 1 := by
  apply BitVec.eq_of_toNat_eq
  rw [loByte_toNat, BitVec.toNat_add, joinBytes_toNat, BitVec.toNat_add]
  simp
  omega

theorem hiByte_join_add_one : hiByte (joinBytes h l + 1) = if l + 1 = 0 then h + 1 else h := by
  have hh := h.isLt
  have hl := l.isLt
  apply BitVec.eq_of_toNat_eq
  rw [hiByte_toNat, BitVec.toNat_add, joinBytes_toNat]
  split <;> bv_omega

theorem loByte_join_sub_one : loByte (joinBytes h l - 1) = l - 1 := by
  apply BitVec.eq_of_toNat_eq
  rw [loByte_toNat, BitVec.toNat_sub, joinBytes_toNat, BitVec.toNat_sub]
  simp
  omega

theorem hiByte_join_sub_one : hiByte (joinBytes h l - 1) = if l - 1 = 0xFF then h - 1 else h := by
  have hh := h.isLt
  have hl := l.isLt
  apply BitVec.eq_of_toNat_eq
  rw [hiByte_toNat, BitVec.toNat_sub, joinBytes_toNat]
  split <;> bv_omega

end

/-- The low half wraps exactly when a carry enters the high half, so the two steps are the addition (R160). -/
theorem incrementPair_eq (rp : Rp) (s : State) : incrementPair rp s = s.setRp rp (s.rp rp + 1) := by
  rcases rp with p | _
  · show _ = s.setPair p (joinBytes _ _ + 1)
    rw [State.setPair, hiByte_join_add_one, loByte_join_add_one]
    by_cases h : s.reg (pairLo p) + 1 = 0
    · rw [incrementPair_wrap s p h, if_pos h, h, setReg_halves_comm]
    · rw [incrementPair_noWrap s p h, if_neg h, setReg_self]
  · rfl

/-- The mirror: the low half becomes 0xFF exactly when a borrow leaves it (R161). -/
theorem decrementPair_eq (rp : Rp) (s : State) : decrementPair rp s = s.setRp rp (s.rp rp - 1) := by
  rcases rp with p | _
  · show _ = s.setPair p (joinBytes _ _ - 1)
    rw [State.setPair, hiByte_join_sub_one, loByte_join_sub_one]
    by_cases h : s.reg (pairLo p) - 1 = 0xFF
    · rw [decrementPair_wrap s p h, if_pos h, h, setReg_halves_comm]
    · rw [decrementPair_noWrap s p h, if_neg h, setReg_self]
  · rfl

/-- Settles O36: both are one write of the operand, by `incrementPair_eq` and `decrementPair_eq`. -/
theorem pairsCountModulo65536 : Obligations.PairsCountModulo65536 := by
  refine fun rp s => ⟨⟨encodedAs_of_encode (encode_inx rp), costs_inx rp, _, exec_inx s rp, ?inx⟩,
    ⟨encodedAs_of_encode (encode_dcx rp), costs_dcx rp, _, exec_dcx s rp, ?dcx⟩⟩
  case inx =>
    rw [incrementPair_eq]
    exact setRp_effect s rp _
  case dcx =>
    rw [decrementPair_eq]
    exact setRp_effect s rp _

/-! ### DAD -/

section

variable (v w : Word)

/-- Bit 16 of the 17-bit sum is its carry out of bit 15. -/
theorem sum17_carry : (v.zeroExtend 17 + w.zeroExtend 17).getLsbD 16 = decide (65536 ≤ v.toNat + w.toNat) := by
  have hv := v.isLt
  have hw := w.isLt
  rw [← BitVec.msb_eq_getLsbD_last, BitVec.msb_eq_decide]
  simp
  omega

theorem sum17_low : (v.zeroExtend 17 + w.zeroExtend 17).extractLsb' 0 16 = v + w := by
  apply BitVec.eq_of_toNat_eq
  simp

theorem addPairToHl_eq (rp : Rp) (s : State) :
    addPairToHl rp s
      = (s.setFlags { s.flags with cy := decide (65536 ≤ s.hl.toNat + (s.rp rp).toNat) }).setPair .hl
          (s.hl + s.rp rp) := by
  rw [addPairToHl, sum17_carry, sum17_low]

end

/-- Settles O37: a write of CY and a write of HL. -/
theorem dadAddsToHl : Obligations.DadAddsToHl := by
  refine fun rp s => ⟨encodedAs_of_encode (encode_dad rp), costs_dad rp, _, exec_dad s rp, ?_⟩
  rw [addPairToHl_eq]
  exact ⟨pair_setPair_same _ .hl _, rfl,
    changesOnly_trans (changesOnly_setFlags s _ [] []) (changesOnly_setPair _ .hl _), rfl, rfl⟩

end Sys2Proof.Machine
end

section
/-! O57, O8 and O10. The writers of the control state one by one, the outcome of a step by the instruction fetched
(00_scope R9), and the ends of a run (70_reset R277). -/

namespace Sys2Proof.Machine

/-! ### Who writes INTE, RUN and the trap record (10_state R30 to R32) -/

section

variable {s t : State} {i : Instr}

theorem ControlWrite.inte_eq (h : ControlWrite s i t) (hei : i ≠ .ei) (hdi : i ≠ .di) : t.inte = s.inte := by
  cases h with
  | undef u => rfl
  | hlt => rfl
  | ei => exact absurd rfl hei
  | di => exact absurd rfl hdi
  | keeps h =>
    obtain ⟨hinte, -⟩ := h
    exact hinte

theorem ControlWrite.run_eq (h : ControlWrite s i t) (hhlt : i ≠ .hlt) (hi : ¬ isUndefined i) : t.run = s.run := by
  cases h with
  | undef u => exact absurd ⟨u, rfl⟩ hi
  | hlt => exact absurd rfl hhlt
  | ei | di => rfl
  | keeps h =>
    obtain ⟨-, hrun, -⟩ := h
    exact hrun

end

/-- Settles O57: the control state by the cases of `ControlWrite`. -/
theorem controlStateWriters : Obligations.ControlStateWriters := by
  intro i s
  obtain ⟨t, ht, hw⟩ := exec_controlWrite s i
  exact ⟨t, ht, hw.inte_eq, hw.run_eq, fun hi => (hw.noTrap hi).2⟩

/-! ### The outcome of a step -/

/-- Only an undefined opcode has no cycle count (70_reset R276). -/
theorem isUndefined_of_cycles_none {i : Instr} {b : Bool} (h : cycles i b = none) : isUndefined i := by
  cases i with
  | undef08 => exact ⟨.x08, rfl⟩
  | undef10 => exact ⟨.x10, rfl⟩
  | undef18 => exact ⟨.x18, rfl⟩
  | undef20 => exact ⟨.x20, rfl⟩
  | undef28 => exact ⟨.x28, rfl⟩
  | undef30 => exact ⟨.x30, rfl⟩
  | undef38 => exact ⟨.x38, rfl⟩
  | undefCB => exact ⟨.xCB, rfl⟩
  | undefD9 => exact ⟨.xD9, rfl⟩
  | undefDD => exact ⟨.xDD, rfl⟩
  | undefED => exact ⟨.xED, rfl⟩
  | undefFD => exact ⟨.xFD, rfl⟩
  | _ => cases h

theorem cycles_of_not_undefined {i : Instr} (hi : ¬ isUndefined i) (b : Bool) : ∃ n, cycles i b = some n :=
  Option.ne_none_iff_exists'.mp (mt isUndefined_of_cycles_none hi)

/-- The outcome of a step that ends in RUN = RUNNING is Ok with the cycles of the instruction fetched (00_scope R9). -/
theorem coreStep_of_running {s t : State} (h : step s = .next t) (ht : t.run = .running) :
    coreStep s = .ok t (stepCycles s) := by
  simp [coreStep, stepState, h, ht]

theorem stepCycles_of_cycles {s : State} {n : Nat}
    (h : cycles (fetchInstr s) (taken (fetchInstr s) s.flags) = some n) : stepCycles s = n := by
  simp [stepCycles, h]

/-- Settles O8: the trap by `step_undef`, the halt by its own rule, and nothing else writes RUN. -/
theorem outcomeOfAStep : Obligations.OutcomeOfAStep := by
  intro s hrun
  obtain ⟨t, ht, hw⟩ := exec_controlWrite (afterFetch s) (fetchInstr s)
  have hstep : step s = .next t := (step_running hrun).trans ht
  refine ⟨t, hstep, fun u hu => ⟨?trap, undefByte_of_fetchInstr hu⟩, fun hhlt => ?halted, fun hhlt hi => ?ok⟩
  case trap =>
    have hpc : s.pc + 1 - 1 = s.pc := BitVec.add_sub_cancel s.pc 1
    cases (step_undef hrun hu).symm.trans hstep
    simpa [hpc, undefByte_of_fetchInstr hu] using coreStep_of_trapped hstep rfl
  case halted =>
    cases next_of_fetchInstr ht hhlt rfl
    exact coreStep_of_halted hstep rfl
  case ok =>
    have htrun : t.run = .running := (hw.run_eq hhlt hi).trans hrun
    obtain ⟨n, hn⟩ := cycles_of_not_undefined hi (taken (fetchInstr s) s.flags)
    exact ⟨htrun, n, stepCycles_of_cycles hn ▸ coreStep_of_running hstep htrun, hn⟩

/-! ### The ends of a run -/

section

variable {s t u : State} {j k : Nat}

theorem reaches_unique (ht : reaches k s t) (hu : reaches k s u) : t = u := Host.Outcome.next.inj (ht.symm.trans hu)

theorem reaches_total (k : Nat) : ∀ s, ∃ t, reaches k s t := by
  induction k with
  | zero => exact fun s => ⟨s, rfl⟩
  | succ k ih =>
    intro s
    obtain ⟨t, ht⟩ := step_next s
    obtain ⟨u, hu⟩ := ih t
    exact ⟨u, reaches_succ ht hu⟩

theorem reaches_add (ht : reaches k s t) (hu : reaches j t u) : reaches (k + j) s u := by
  induction k generalizing s with
  | zero =>
    cases ht
    simpa using hu
  | succ k ih =>
    obtain ⟨s', hs'⟩ := step_next s
    rw [Nat.add_right_comm]
    exact reaches_succ hs' (ih ((run_succ hs').symm.trans ht))

/-- Once a run has ended it stands still (60_exceptions R252). -/
theorem reaches_add_of_terminal (ht : reaches k s t) (hrun : t.run ≠ .running) (j : Nat) : reaches (k + j) s t :=
  reaches_add ht (reaches_of_step_self (step_terminal hrun) j)

/-- A run ends in one state at most: where two counts of steps both reach an end, it is the same one. -/
theorem ends_unique (ht : reaches k s t) (hu : reaches j s u) (htrun : t.run ≠ .running) (hurun : u.run ≠ .running) :
    t = u :=
  reaches_unique (reaches_add_of_terminal ht htrun j) (Nat.add_comm j k ▸ reaches_add_of_terminal hu hurun k)

/-- A run that never ends reaches no terminal state. -/
theorem run_of_neverEnds (h : neverEnds s) (ht : reaches k s t) : t.run = .running := by
  obtain ⟨u, hu, hrun⟩ := h k
  exact reaches_unique ht hu ▸ hrun

theorem endsHalted_or_endsTrapped (h : ¬ neverEnds s) : endsHalted s ∨ endsTrapped s := by
  obtain ⟨k, hk⟩ := not_forall.mp h
  obtain ⟨t, ht⟩ := reaches_total k s
  cases hrun : t.run with
  | running => exact absurd ⟨t, ht, hrun⟩ hk
  | halted => exact .inl ⟨k, t, ht, hrun⟩
  | trapped => exact .inr ⟨k, t, ht, hrun⟩

theorem safeRun_iff : safeRun s ↔ ¬ endsTrapped s :=
  ⟨fun h ⟨k, t, ht, hrun⟩ => h k t ht hrun, fun h k t ht hrun => h ⟨k, t, ht, hrun⟩⟩

end

/-- Settles O10: `step` is total and leaves a terminal state alone, so a run has one end or none. -/
theorem runEndsInOneWay : Obligations.RunEndsInOneWay := by
  refine fun s => ⟨?oneOfThree, ?haltedTrapped, ?haltedNever, ?trappedNever, safeRun_iff⟩
  case oneOfThree =>
    by_cases h : neverEnds s
    · exact .inr (.inr h)
    · exact (endsHalted_or_endsTrapped h).imp_right .inl
  case haltedTrapped =>
    rintro ⟨⟨k, t, ht, htrun⟩, ⟨j, u, hu, hurun⟩⟩
    cases ends_unique ht hu (by simp [htrun]) (by simp [hurun])
    simp [htrun] at hurun
  case haltedNever =>
    rintro ⟨⟨k, t, ht, htrun⟩, h⟩
    simp [run_of_neverEnds h ht] at htrun
  case trappedNever =>
    rintro ⟨⟨k, t, ht, htrun⟩, h⟩
    simp [run_of_neverEnds h ht] at htrun

end Sys2Proof.Machine
end
section
/-! O9, O11, O56 and O58. What each instruction may write of SP, memory and the flags (10_state R24, R28, 20_memory
R55), and the invariant that every step keeps. -/

namespace Sys2Proof.Machine

/-! ### Who writes SP, memory and the flags -/

/-- The instructions that write some flag (10_state R28). -/
def writesFlags (i : Instr) : Prop :=
  writesFiveFlags i ∨ isLogic i ∨ isIncDec i ∨ writesCarryOnly i ∨ i = .cmc ∨ i = .stc ∨ i = .daa ∨ i = .popPsw

theorem writesFlags_of_isAlu {op : AluOp} {i : Instr} (h : isAlu op i) : writesFlags i := by
  cases op <;> simp [writesFlags, writesFiveFlags, isLogic, h]

theorem writesFlags_of_isIncDec {i : Instr} (h : isIncDec i) : writesFlags i := .inr (.inr (.inl h))

theorem writesFlags_of_writesCarryOnly {i : Instr} (h : writesCarryOnly i) : writesFlags i :=
  .inr (.inr (.inr (.inl h)))

theorem writesSp_of_push_or_pop {i : Instr} {p : Pair} (h : i = Instr.push p ∨ i = Instr.pop p) : writesSp i :=
  .inr (.inr (.inr (.inr (.inl ⟨p, h⟩))))

/-- What `i` makes of SP, memory and the flags of `s` when it answers `t`: each is written only by the instructions that
write it, and memory keeps its canonical form. -/
structure Writes (s : State) (i : Instr) (t : State) : Prop where
  sp : writesSp i ∨ t.sp = s.sp
  memory : (stores i ∧ (memWf s.mem = true → memWf t.mem = true)) ∨ t.mem = s.mem
  flags : writesFlags i ∨ t.flags = s.flags

section

variable (s : State)

theorem aluTemplate_sp (op : AluOp) (v : Byte) : (aluTemplate op v s).sp = s.sp := by cases op <;> rfl

theorem aluTemplate_mem (op : AluOp) (v : Byte) : (aluTemplate op v s).mem = s.mem := by cases op <;> rfl

/-- An operation of the ALU, in any of its forms, writes A and the flags. -/
theorem aluTemplate_writes {op : AluOp} {i : Instr} (h : isAlu op i) (v : Byte) : Writes s i (aluTemplate op v s) :=
  ⟨.inr (aluTemplate_sp s op v), .inr (aluTemplate_mem s op v), .inl (writesFlags_of_isAlu h)⟩

/-- A pair-coded operand written: SP by its own row alone. -/
theorem setRp_writes {rp : Rp} {i : Instr} (h : rp = .sp → writesSp i) (v : Word) : Writes s i (s.setRp rp v) := by
  refine ⟨?sp, .inr (setRp_mem s rp v), .inr (setRp_flags s rp v)⟩
  by_cases hrp : rp = .sp
  · exact .inl (h hrp)
  · exact .inr (setRp_sp_of_ne s rp v hrp)

/-- One stored byte. -/
theorem store_writes {i : Instr} (h : stores i) (a : Word) (v : Byte) : Writes s i (s.store a v) :=
  ⟨.inr rfl, .inl ⟨h, store_wf a v⟩, .inr rfl⟩

/-- A pushed word. -/
theorem push16_writes {i : Instr} (hsp : writesSp i) (h : stores i) (v : Word) : Writes s i (s.push16 v) :=
  ⟨.inl hsp, .inl ⟨h, push16_wf v⟩, .inr rfl⟩

theorem jumpIf_writes (cond : Cond) (addr : Word) : Writes s (Instr.jcc cond addr) (jumpIf cond addr s) := by
  rw [jumpIf_eq_setPc]
  exact ⟨.inr rfl, .inr rfl, .inr rfl⟩

/-- A call writes what its push writes. -/
theorem callTo_writes {i : Instr} (hsp : writesSp i) (h : stores i) (addr : Word) : Writes s i (callTo addr s) :=
  have ⟨hsp, hmem, hflags⟩ := push16_writes s hsp h s.pc
  ⟨hsp, hmem, hflags⟩

theorem callIf_writes (cond : Cond) (addr : Word) : Writes s (Instr.ccc cond addr) (callIf cond addr s) := by
  unfold callIf
  split
  · exact callTo_writes s (by simp [writesSp]) (by simp [stores]) addr
  · exact ⟨.inr rfl, .inr rfl, .inr rfl⟩

theorem returnIf_writes (cond : Cond) : Writes s (Instr.rcc cond) (returnIf cond s) := by
  unfold returnIf
  split
  · exact ⟨.inl (by simp [writesSp]), .inr rfl, .inr rfl⟩
  · exact ⟨.inr rfl, .inr rfl, .inr rfl⟩

/-- Every instruction completes and writes only what it may. -/
theorem exec_writes (i : Instr) : ∃ t, exec i s = .next t ∧ Writes s i t := by
  induction i using forall_forms with
  -- A and the flags
  | h_aluReg op r => exact ⟨_, exec_aluReg s op r, aluTemplate_writes s (.inl ⟨r, rfl⟩) _⟩
  | h_aluMem op => exact ⟨_, exec_aluMem s op, aluTemplate_writes s (.inr (.inl rfl)) _⟩
  | h_aluImm op d8 => exact ⟨_, exec_aluImm s op d8, aluTemplate_writes s (.inr (.inr ⟨d8, rfl⟩)) _⟩
  -- a pair or SP
  | h_lxi rp d16 => exact ⟨_, exec_lxi s rp d16, setRp_writes s (fun h => .inl ⟨d16, by rw [h]; rfl⟩) d16⟩
  | h_inx rp =>
    exact ⟨_, exec_inx s rp, incrementPair_eq rp s ▸ setRp_writes s (fun h => .inr (.inl (by rw [h]; rfl))) _⟩
  | h_dcx rp =>
    exact ⟨_, exec_dcx s rp, decrementPair_eq rp s ▸ setRp_writes s (fun h => .inr (.inr (.inl (by rw [h]; rfl)))) _⟩
  -- one stored byte
  | h_movToM r => exact ⟨_, exec_movToM s r, store_writes s (by simp [stores]) _ _⟩
  | h_mviM d8 => exact ⟨_, rfl, store_writes s (by simp [stores]) _ d8⟩
  | h_sta addr => exact ⟨_, rfl, store_writes s (by simp [stores]) addr _⟩
  | h_stax p => exact ⟨_, exec_stax s p, store_writes s (by simp [stores]) _ _⟩
  -- one stored byte and the flags of it
  | h_inrM | h_dcrM =>
    exact ⟨_, rfl, .inr rfl, .inl ⟨by simp [stores], store_wf _ _⟩, .inl (writesFlags_of_isIncDec (by simp [isIncDec]))⟩
  -- two stored bytes
  | h_shld addr | h_xthl =>
    exact ⟨_, rfl, .inr rfl, .inl ⟨by simp [stores], fun hwf => store_wf _ _ (store_wf _ _ hwf)⟩, .inr rfl⟩
  -- the stack
  | h_push p => exact ⟨_, exec_push s p, push16_writes s (writesSp_of_push_or_pop (.inl rfl)) (by simp [stores]) _⟩
  | h_pushPsw => exact ⟨_, rfl, push16_writes s (by simp [writesSp]) (by simp [stores]) _⟩
  | h_call addr => exact ⟨_, rfl, callTo_writes s (by simp [writesSp]) (by simp [stores]) addr⟩
  | h_rst n => exact ⟨_, exec_rst s n, callTo_writes s (by simp [writesSp]) (by simp [stores]) _⟩
  | h_ccc cond addr => exact ⟨_, exec_ccc s cond addr, callIf_writes s cond addr⟩
  | h_rcc cond => exact ⟨_, exec_rcc s cond, returnIf_writes s cond⟩
  | h_pop p => exact ⟨_, exec_pop s p, .inl (writesSp_of_push_or_pop (.inr rfl)), .inr rfl, .inr rfl⟩
  | h_popPsw => exact ⟨_, rfl, .inl (by simp [writesSp]), .inr rfl, .inl (by simp [writesFlags])⟩
  | h_ret | h_sphl => exact ⟨_, rfl, .inl (by simp [writesSp]), .inr rfl, .inr rfl⟩
  -- flags alone, or with registers
  | h_inr r => exact ⟨_, exec_inr s r, .inr rfl, .inr rfl, .inl (writesFlags_of_isIncDec (.inl ⟨r, .inl rfl⟩))⟩
  | h_dcr r => exact ⟨_, exec_dcr s r, .inr rfl, .inr rfl, .inl (writesFlags_of_isIncDec (.inl ⟨r, .inr rfl⟩))⟩
  | h_dad rp => exact ⟨_, exec_dad s rp, .inr rfl, .inr rfl, .inl (writesFlags_of_writesCarryOnly (.inl ⟨rp, rfl⟩))⟩
  | h_rlc | h_rrc | h_ral | h_rar =>
    exact ⟨_, rfl, .inr rfl, .inr rfl, .inl (writesFlags_of_writesCarryOnly (by simp [writesCarryOnly]))⟩
  | h_daa | h_cmc | h_stc => exact ⟨_, rfl, .inr rfl, .inr rfl, .inl (by simp [writesFlags])⟩
  -- none of the three
  | h_mov r1 r2 => exact ⟨_, exec_mov s r1 r2, .inr rfl, .inr rfl, .inr rfl⟩
  | h_movFromM r => exact ⟨_, exec_movFromM s r, .inr rfl, .inr rfl, .inr rfl⟩
  | h_mvi r d8 => exact ⟨_, exec_mvi s r d8, .inr rfl, .inr rfl, .inr rfl⟩
  | h_ldax p => exact ⟨_, exec_ldax s p, .inr rfl, .inr rfl, .inr rfl⟩
  | h_jcc cond addr => exact ⟨_, exec_jcc s cond addr, jumpIf_writes s cond addr⟩
  | h_undef u => exact ⟨_, exec_undef s u, .inr rfl, .inr rfl, .inr rfl⟩
  | h_lda | h_lhld | h_xchg | h_cma | h_jmp | h_pchl | h_inPort | h_outPort | h_ei | h_di | h_nop | h_hlt =>
    exact ⟨_, rfl, .inr rfl, .inr rfl, .inr rfl⟩

end

theorem Writes.mem_wf {s t : State} {i : Instr} (h : Writes s i t) (hwf : memWf s.mem = true) : memWf t.mem = true := by
  rcases h.memory with ⟨-, hkeeps⟩ | hmem
  · exact hkeeps hwf
  · rwa [hmem]

theorem Writes.load_eq {s t : State} {i : Instr} (h : Writes s i t) (hi : ¬ stores i) (a : Word) :
    t.load a = s.load a := by
  rcases h.memory with ⟨hstores, -⟩ | hmem
  · exact absurd hstores hi
  · rw [State.load, hmem]
    rfl

/-- Settles O58, by what each instruction may write. -/
theorem spAndMemoryWriters : Obligations.SpAndMemoryWriters := by
  intro i s
  obtain ⟨t, ht, hw⟩ := exec_writes s i
  exact ⟨t, ht, hw.sp.resolve_left, hw.load_eq⟩

/-! ### The invariant -/

section

variable {s t : State}

theorem step_mem_wf (h : step s = .next t) (hwf : memWf s.mem = true) : memWf t.mem = true := by
  by_cases hrun : s.run = .running
  · obtain ⟨u, hu, hw⟩ := exec_writes (afterFetch s) (fetchInstr s)
    cases ((step_running hrun).symm.trans h).symm.trans hu
    exact hw.mem_wf hwf
  · cases (step_terminal hrun).symm.trans h
    exact hwf

/-- The byte HLT is fetched from (30_encoding R87). -/
theorem load_of_fetchInstr_hlt (h : fetchInstr s = .hlt) : s.load s.pc = 0x76 := by
  rw [← opcode_decodeBytes (s.load s.pc) (s.load (s.pc + 1)) (s.load (s.pc + 2))]
  exact congrArg Instr.opcode h

/-- What a step that ends the run leaves behind: after HLT the core stands behind its byte, after a trap behind the byte
the trap record names (60_exceptions R241, R243, R244). -/
theorem step_end (hrun : s.run = .running) (h : step s = .next t) :
    (t.run = .halted → t.load (t.pc - 1) = 0x76) ∧
    (t.run = .trapped → t.load t.trapPc = t.trapOpcode ∧ t.trapOpcode ∈ undefOpcodes ∧ t.pc = t.trapPc + 1) := by
  have hpc : s.pc + 1 - 1 = s.pc := BitVec.add_sub_cancel s.pc 1
  by_cases hhlt : fetchInstr s = .hlt
  · have hop := load_of_fetchInstr_hlt hhlt
    cases (step_hlt hrun hop).symm.trans h
    exact ⟨fun _ => by simpa [hpc] using hop, (nomatch ·)⟩
  by_cases hundef : isUndefined (fetchInstr s)
  · obtain ⟨u, hu⟩ := hundef
    cases (step_undef hrun hu).symm.trans h
    have hmem : s.load s.pc ∈ undefOpcodes := (isUndefined_fetchInstr s).mp ⟨u, hu⟩
    exact ⟨(nomatch ·), fun _ => by simpa [hpc] using hmem⟩
  · obtain ⟨u, hu, hw⟩ := exec_controlWrite (afterFetch s) (fetchInstr s)
    cases ((step_running hrun).symm.trans h).symm.trans hu
    have htrun : t.run = .running := (hw.run_eq hhlt hundef).trans hrun
    simp [htrun]

end

/-- Settles O9: a terminal state is its own next state; otherwise memory by `step_mem_wf` and the end of the run by
`step_end`. -/
theorem stepKeepsInv : Obligations.StepKeepsInv := by
  intro s t hinv h
  by_cases hrun : s.run = .running
  · obtain ⟨hwf, -⟩ := hinv
    exact ⟨step_mem_wf h hwf, step_end hrun h⟩
  · cases (step_terminal hrun).symm.trans h
    exact hinv

/-- Settles O2: memory by `reset_mem_wf`, and RUN is RUNNING after reset. -/
theorem invAtReset : Obligations.InvAtReset :=
  ⟨reset_mem_wf, (nomatch ·), (nomatch ·)⟩

/-! ### A store before the next fetch (20_memory section 5) -/

/-- Settles O11: each byte of the next fetch by `load_store`. -/
theorem storeSeenByNextFetch : Obligations.StoreSeenByNextFetch := by
  intro s addr hrun h
  refine ⟨(afterFetch s).store addr (s.reg .a), ?step, afterFetch_pc h, ?bytes⟩
  case step =>
    rw [step_running hrun, h]
    rfl
  case bytes =>
    simp only [fetchBytes, load_store, List.map_cons, List.map_nil]
    rfl

/-! ### The flags (10_state R28) -/

section

variable {i : Instr} {s t u : State}

theorem exec_unique (ht : exec i s = .next t) (hu : exec i s = .next u) : t = u :=
  Host.Outcome.next.inj (ht.symm.trans hu)

/-- Every form of an operation of the ALU comes to its template. -/
theorem exec_of_isAlu {op : AluOp} (h : isAlu op i) (ht : exec i s = .next t) : ∃ v, t = aluTemplate op v s := by
  rcases h with ⟨r, rfl⟩ | rfl | ⟨d8, rfl⟩
  · exact ⟨_, exec_unique ht (exec_aluReg s op r)⟩
  · exact ⟨_, exec_unique ht (exec_aluMem s op)⟩
  · exact ⟨_, exec_unique ht (exec_aluImm s op d8)⟩

theorem flags_of_isLogic (h : isLogic i) (ht : exec i s = .next t) : t.flags.cy = false ∧ t.flags.ac = false := by
  rcases h with h | h | h
  all_goals
    obtain ⟨v, rfl⟩ := exec_of_isAlu h ht
    exact ⟨rfl, rfl⟩

theorem flags_of_isIncDec (h : isIncDec i) (ht : exec i s = .next t) :
    t.flags.cy = s.flags.cy ∧ t.flags.ac = s.flags.ac := by
  rcases h with ⟨r, rfl | rfl⟩ | rfl | rfl
  · cases exec_unique ht (exec_inr s r)
    exact ⟨rfl, rfl⟩
  · cases exec_unique ht (exec_dcr s r)
    exact ⟨rfl, rfl⟩
  · cases ht
    exact ⟨rfl, rfl⟩
  · cases ht
    exact ⟨rfl, rfl⟩

theorem flags_of_writesCarryOnly (h : writesCarryOnly i) (ht : exec i s = .next t) :
    t.flags = { s.flags with cy := t.flags.cy } := by
  rcases h with ⟨rp, rfl⟩ | rfl | rfl | rfl | rfl
  · cases exec_unique ht (exec_dad s rp)
    rfl
  all_goals
    cases ht
    rfl

end

/-- Settles O56: each group by its shared operation, and outside all groups by what an instruction may write. -/
theorem flagDiscipline : Obligations.FlagDiscipline := by
  intro i s
  obtain ⟨t, ht, hw⟩ := exec_writes s i
  refine ⟨t, ht, fun h => flags_of_isLogic h ht, fun h => flags_of_isIncDec h ht,
    fun h => flags_of_writesCarryOnly h ht, ?cmc, ?stc, hw.flags.resolve_left⟩
  case cmc =>
    rintro rfl
    cases ht
    rfl
  case stc =>
    rintro rfl
    cases ht
    rfl

end Sys2Proof.Machine
end
section
/-! O39 and O42. The laws of the integer arithmetic (41_arithmetic section 6), and CMP against SUB (42_logical
section 2). -/

namespace Sys2Proof.Machine

section

variable (v : Byte) (c : Bool) (s : State)

/-! ### Carry and result together are the exact sum or difference -/

theorem addTemplate_exact :
    256 * (addTemplate v c s).flags.cy.toNat + ((addTemplate v c s).reg .a).toNat
      = (s.reg .a).toNat + v.toNat + c.toNat := by
  have ha := (s.reg .a).isLt
  have hv := v.isLt
  have hc := c.toNat_le
  rw [addTemplate_a, addTemplate_cy, BitVec.toNat_ofNat]
  by_cases h : 256 ≤ (s.reg .a).toNat + v.toNat + c.toNat <;> simp [h] <;> omega

theorem subTemplate_exact :
    (((subTemplate v c s).reg .a).toNat : Int) - 256 * (subTemplate v c s).flags.cy.toNat
      = (s.reg .a).toNat - v.toNat - c.toNat := by
  have ha := (s.reg .a).isLt
  have hv := v.isLt
  have hc := c.toNat_le
  rw [subTemplate_a, subTemplate_cy]
  by_cases h : (s.reg .a).toNat < v.toNat + c.toNat <;> simp [h, BitVec.toNat_sub] <;> omega

/-- Without a borrow in. -/
theorem subTemplate_exact_false :
    (((subTemplate v false s).reg .a).toNat : Int) - 256 * (subTemplate v false s).flags.cy.toNat
      = (s.reg .a).toNat - v.toNat := by
  simpa using subTemplate_exact v false s

theorem addPairToHl_exact (rp : Rp) :
    65536 * (addPairToHl rp s).flags.cy.toNat + (addPairToHl rp s).hl.toNat = s.hl.toNat + (s.rp rp).toNat := by
  have hhl := s.hl.isLt
  have hrp := (s.rp rp).isLt
  have hsum : (addPairToHl rp s).hl = s.hl + s.rp rp := by
    rw [addPairToHl_eq]
    exact pair_setPair_same _ .hl _
  rw [hsum, addPairToHl_eq, setPair_flags, setFlags_flags, BitVec.toNat_add]
  by_cases h : 65536 ≤ s.hl.toNat + (s.rp rp).toNat <;> simp [h] <;> omega

/-! ### Zero, INR then DCR, ADD A -/

theorem flagsZSP_z_iff (r : Byte) (f : Flags) : (flagsZSP r f).z = true ↔ r = 0 := beq_iff_eq

theorem flagsZSP_of_z {r : Byte} {f : Flags} (h : (flagsZSP r f).z = true) :
    (flagsZSP r f).s = false ∧ (flagsZSP r f).p = true := by
  cases (flagsZSP_z_iff r f).mp h
  exact ⟨rfl, rfl⟩

theorem decrementReg_incrementReg (r : Reg) :
    decrementReg r (incrementReg r s) = s.setFlags (flagsZSP (s.reg r) s.flags) := by
  have hvalue : (incrementReg r s).reg r - 1 = s.reg r := by
    show ((s.setReg r (s.reg r + 1)).reg r) - 1 = s.reg r
    rw [reg_setReg_same, BitVec.add_sub_cancel]
  rw [decrementReg, hvalue]
  cases r <;> rfl

/-- A doubled carries exactly when its top bit is set. -/
theorem addTemplate_self_cy : (addTemplate (s.reg .a) false s).flags.cy = true ↔ 0x80 ≤ (s.reg .a).toNat := by
  rw [addTemplate_cy, decide_eq_true_iff, Bool.toNat_false]
  omega

end

/-- Settles O39: (a) and (b) by the templates in every form, the others by their shared operation. -/
theorem arithmeticIdentities : Obligations.ArithmeticIdentities := by
  refine ⟨fun v s => ⟨_, rfl, addTemplate_exact v false s⟩, fun v s => ⟨_, rfl, addTemplate_exact v s.flags.cy s⟩,
    fun r s => ⟨_, exec_aluReg s .add r, addTemplate_exact _ false s⟩,
    fun r s => ⟨_, exec_aluReg s .adc r, addTemplate_exact _ s.flags.cy s⟩,
    fun s => ⟨_, rfl, addTemplate_exact _ false s⟩, fun s => ⟨_, rfl, addTemplate_exact _ s.flags.cy s⟩,
    fun v s => ⟨_, rfl, subTemplate_exact_false v s⟩, fun v s => ⟨_, rfl, subTemplate_exact v s.flags.cy s⟩,
    fun r s => ⟨_, exec_aluReg s .sub r, subTemplate_exact_false _ s⟩,
    fun r s => ⟨_, exec_aluReg s .sbb r, subTemplate_exact _ s.flags.cy s⟩,
    fun s => ⟨_, rfl, subTemplate_exact_false _ s⟩, fun s => ⟨_, rfl, subTemplate_exact _ s.flags.cy s⟩,
    fun rp s => ⟨_, exec_dad s rp, addPairToHl_exact s rp⟩, fun r f => ⟨flagsZSP_z_iff r f, flagsZSP_of_z⟩,
    fun r s => ⟨_, _, exec_inr s r, exec_dcr _ r, ?inrDcr⟩, fun s => ⟨_, rfl, addTemplate_self_cy s⟩⟩
  case inrDcr =>
    rw [decrementReg_incrementReg]
    exact ⟨fun _ => rfl, rfl, rfl, zspOf_flagsZSP _ _⟩

/-! ### CMP and SUB -/

/-- CMP is a SUB whose result is thrown away. -/
theorem cmpTemplate_eq (v : Byte) (s : State) : cmpTemplate v s = (subTemplate v false s).setReg .a (s.reg .a) := by
  calc cmpTemplate v s
    _ = s.setFlags (cmpTemplate v s).flags := rfl
    _ = s.setFlags (subTemplate v false s).flags := by rw [cmpTemplate_flags]
    _ = (subTemplate v false s).setReg .a (s.reg .a) := rfl

/-- Settles O42: each form of CMP and of SUB comes to its template, with the same operand. -/
theorem compareFlagsAreSubtractFlags : Obligations.CompareFlagsAreSubtractFlags := fun s =>
  ⟨fun r => ⟨_, _, exec_aluReg s .cmp r, exec_aluReg s .sub r, cmpTemplate_eq _ s⟩,
    ⟨_, _, exec_aluMem s .cmp, exec_aluMem s .sub, cmpTemplate_eq _ s⟩,
    fun d8 => ⟨_, _, exec_aluImm s .cmp d8, exec_aluImm s .sub d8, cmpTemplate_eq d8 s⟩⟩

end Sys2Proof.Machine
end

section
/-! O51 and O55. A push and the pop of the same operand (44_stack section 2), and the trap entry of each undefined
opcode (60_exceptions R241 to R243). -/

namespace Sys2Proof.Machine

section

variable (s : State)

theorem setPair_self (p : Pair) : s.setPair p (s.pair p) = s := by
  rw [State.setPair, State.pair, hiByte_joinBytes, loByte_joinBytes]
  cases p <;> rfl

theorem setPsw_self : s.setPsw s.psw = s := by
  rw [State.setPsw, State.psw, hiByte_joinBytes, loByte_joinBytes, unpackFlags_packFlags]
  rfl

/-- The operand popped is the one pushed, and it still holds that word: only the stack primitives are left. -/
theorem popPair_pushPair (p : Pair) : popPair p (pushPair p s) = (s.push16 (s.pair p)).popped := by
  rw [popPair, pushPair, topWord_push16]
  exact setPair_self (s.push16 (s.pair p)).popped p

theorem popPsw_pushPsw : popPsw (pushPsw s) = (s.push16 s.psw).popped := by
  rw [popPsw, pushPsw, topWord_push16]
  exact setPsw_self (s.push16 s.psw).popped

theorem sameMemoryExcept_push16 (v : Word) : sameMemoryExcept [s.sp - 1, s.sp - 2] s (s.push16 v) :=
  have ⟨_, hmem, _⟩ := changesOnly_push16 s v
  hmem

/-- The stack primitives in a row leave all but the two stack bytes as before. -/
theorem popped_push16_effect (v : Word) :
    let u := (s.push16 v).popped
    (∀ r, u.reg r = s.reg r) ∧ u.flags = s.flags ∧ u.sp = s.sp ∧ u.pc = s.pc ∧
      sameMemoryExcept [s.sp - 1, s.sp - 2] s u :=
  ⟨fun _ => rfl, rfl, sub_two_add_two s.sp, rfl, sameMemoryExcept_push16 s v⟩

end

/-- Settles O51: both round trips come to the stack primitives. -/
theorem pushPopRestores : Obligations.PushPopRestores := by
  refine fun s => ⟨fun p => ⟨_, _, exec_push s p, exec_pop _ p, ?pair⟩, _, _, rfl, rfl, ?psw⟩
  case pair =>
    rw [popPair_pushPair]
    exact popped_push16_effect s _
  case psw =>
    rw [popPsw_pushPsw]
    exact popped_push16_effect s _

theorem encode_undef (u : UndefOp) : encode (Instr.undef u) = [undefByte u] := by cases u <;> rfl

theorem cycles_undef (u : UndefOp) (b : Bool) : cycles (Instr.undef u) b = none := by cases u <;> rfl

/-- Settles O55: each of the twelve takes the trap with its own byte. -/
theorem trapEntry : Obligations.TrapEntry := fun u s =>
  ⟨encodedAs_of_encode (encode_undef u), cycles_undef u, exec_undef s u⟩

end Sys2Proof.Machine
end

section
/-! O20 and O59. What no instruction reads: AC, but for DAA and PUSH PSW (41_arithmetic R166), and INTE and the trap
record (10_state R30 to R32). -/

namespace Sys2Proof.Machine

/-! ### The auxiliary carries -/

section

variable (a v : Byte) (c : Bool)

theorem acAdd_eq : acAdd a v c = decide (0xF < a.toNat % 16 + v.toNat % 16 + c.toNat) := by
  rw [acAdd, loNibble_toNat, loNibble_toNat]

theorem acSub_eq : acSub a v c = decide (0xF < a.toNat % 16 + (255 - v.toNat) % 16 + (1 - c.toNat)) := by
  rw [acSub, loNibble_toNat, loNibble_toNat, BitVec.toNat_not]

/-- AC_SUB is 1 when the low nibbles subtract without a borrow. -/
theorem acSub_noBorrow : acSub a v c = decide (v.toNat % 16 + c.toNat ≤ a.toNat % 16) := by
  have hv := v.isLt
  have hc := c.toNat_le
  rw [acSub_eq]
  exact decide_eq_decide.mpr (by omega)

end

/-! ### Overwriting what is seldom read -/

/-- New values for AC, INTE and the trap record; `none` leaves a component as it is. -/
structure Overwrite where
  ac : Option Bool
  inte : Option Bool
  trapOpcode : Option Byte
  trapPc : Option Word

/-- The state with some of AC, INTE and the trap record overwritten. -/
def State.overwrite (s : State) (o : Overwrite) : State :=
  { s with
    flags := { s.flags with ac := o.ac.getD s.flags.ac }
    inte := o.inte.getD s.inte
    trapOpcode := o.trapOpcode.getD s.trapOpcode
    trapPc := o.trapPc.getD s.trapPc }

/-- `o'` overwrites nothing that `o` leaves as it is. -/
structure Overwrite.Within (o' o : Overwrite) : Prop where
  ac : o.ac = none → o'.ac = none
  inte : o.inte = none → o'.inte = none
  trapOpcode : o.trapOpcode = none → o'.trapOpcode = none
  trapPc : o.trapPc = none → o'.trapPc = none

section

variable (s : State) (o : Overwrite)

/-! An instruction hands an overwritten component on, or writes it itself, after which no trace of the
overwriting is left. -/

theorem Overwrite.within_refl : o.Within o := ⟨id, id, id, id⟩

theorem Overwrite.dropAc_within : { o with ac := none }.Within o := ⟨fun _ => rfl, id, id, id⟩

theorem Overwrite.dropInte_within : { o with inte := none }.Within o := ⟨id, fun _ => rfl, id, id⟩

theorem Overwrite.dropTrap_within : { o with trapOpcode := none, trapPc := none }.Within o :=
  ⟨id, id, fun _ => rfl, fun _ => rfl⟩

/-! The shared operations that choose by their operand or their condition. -/

theorem condHolds_overwrite (cond : Cond) : condHolds cond (s.overwrite o).flags = condHolds cond s.flags := by
  cases cond <;> rfl

theorem jumpIf_overwrite (cond : Cond) (addr : Word) :
    jumpIf cond addr (s.overwrite o) = (jumpIf cond addr s).overwrite o := by
  unfold jumpIf
  rw [condHolds_overwrite]
  split <;> rfl

theorem callIf_overwrite (cond : Cond) (addr : Word) :
    callIf cond addr (s.overwrite o) = (callIf cond addr s).overwrite o := by
  unfold callIf
  rw [condHolds_overwrite]
  split <;> rfl

theorem returnIf_overwrite (cond : Cond) : returnIf cond (s.overwrite o) = (returnIf cond s).overwrite o := by
  unfold returnIf
  rw [condHolds_overwrite]
  split <;> rfl

/-- An operation of the ALU writes AC, from operands that AC is no part of. -/
theorem aluTemplate_overwrite (op : AluOp) (v : Byte) :
    aluTemplate op v (s.overwrite o) = (aluTemplate op v s).overwrite { o with ac := none } := by
  cases op <;> rfl

theorem rp_overwrite (rp : Rp) : (s.overwrite o).rp rp = s.rp rp := by cases rp <;> rfl

theorem setRp_overwrite (rp : Rp) (v : Word) : (s.overwrite o).setRp rp v = (s.setRp rp v).overwrite o := by
  cases rp <;> rfl

theorem incrementPair_overwrite (rp : Rp) :
    incrementPair rp (s.overwrite o) = (incrementPair rp s).overwrite o := by
  rw [incrementPair_eq, incrementPair_eq, rp_overwrite, setRp_overwrite]

theorem decrementPair_overwrite (rp : Rp) :
    decrementPair rp (s.overwrite o) = (decrementPair rp s).overwrite o := by
  rw [decrementPair_eq, decrementPair_eq, rp_overwrite, setRp_overwrite]

theorem addPairToHl_overwrite (rp : Rp) : addPairToHl rp (s.overwrite o) = (addPairToHl rp s).overwrite o := by
  rw [addPairToHl_eq, addPairToHl_eq, rp_overwrite]
  rfl

/-! DAA and PUSH PSW read AC. -/

theorem decimalAdjust_overwrite (h : o.ac = none) :
    decimalAdjust (s.overwrite o) = (decimalAdjust s).overwrite o := by
  cases o
  cases h
  rfl

theorem pushPsw_overwrite (h : o.ac = none) : pushPsw (s.overwrite o) = (pushPsw s).overwrite o := by
  cases o
  cases h
  rfl

end

/-- What `i` makes of `s` and of the overwritten state: next states that differ in no more than the two did. -/
def overwriteUnseen (i : Instr) (s : State) (o : Overwrite) : Prop :=
  ∃ t o', exec i s = .next t ∧ exec i (s.overwrite o) = .next (t.overwrite o') ∧ o'.Within o

section

variable (s : State) (o : Overwrite)

/-- An instruction whose operation hands every overwritten component on. -/
theorem overwriteUnseen_of_handsOn {i : Instr} {f : State → State} (hexec : ∀ u, exec i u = .next (f u))
    (hf : f (s.overwrite o) = (f s).overwrite o) : overwriteUnseen i s o :=
  ⟨f s, o, hexec s, (hexec _).trans (congrArg Host.Outcome.next hf), o.within_refl⟩

/-- An instruction whose operation writes AC and hands the rest on. -/
theorem overwriteUnseen_of_writesAc {i : Instr} {f : State → State} (hexec : ∀ u, exec i u = .next (f u))
    (hf : f (s.overwrite o) = (f s).overwrite { o with ac := none }) : overwriteUnseen i s o :=
  ⟨f s, _, hexec s, (hexec _).trans (congrArg Host.Outcome.next hf), o.dropAc_within⟩

/-- INTE and the trap record are read by no instruction, AC by DAA and PUSH PSW only. -/
theorem exec_overwriteUnseen (i : Instr) (h : o.ac = none ∨ (i ≠ .daa ∧ i ≠ .pushPsw)) : overwriteUnseen i s o := by
  induction i using forall_forms with
  -- the readers of AC
  | h_daa =>
    have hac : o.ac = none := h.resolve_right fun ⟨hdaa, _⟩ => hdaa rfl
    exact overwriteUnseen_of_handsOn s o (fun _ => rfl) (decimalAdjust_overwrite s o hac)
  | h_pushPsw =>
    have hac : o.ac = none := h.resolve_right fun ⟨_, hpush⟩ => hpush rfl
    exact overwriteUnseen_of_handsOn s o (fun _ => rfl) (pushPsw_overwrite s o hac)
  -- the writers of AC
  | h_aluReg op r =>
    exact overwriteUnseen_of_writesAc s o (exec_aluReg · op r) (aluTemplate_overwrite s o op _)
  | h_aluMem op => exact overwriteUnseen_of_writesAc s o (exec_aluMem · op) (aluTemplate_overwrite s o op _)
  | h_aluImm op d8 => exact overwriteUnseen_of_writesAc s o (exec_aluImm · op d8) (aluTemplate_overwrite s o op d8)
  | h_popPsw => exact overwriteUnseen_of_writesAc s o (fun _ => rfl) rfl
  -- the writers of INTE and of the trap record
  | h_ei | h_di => exact ⟨_, _, rfl, rfl, o.dropInte_within⟩
  | h_undef u => exact ⟨_, _, exec_undef s u, exec_undef _ u, o.dropTrap_within⟩
  -- the forms whose shared operation chooses by its operand or its condition
  | h_lxi rp d16 => exact overwriteUnseen_of_handsOn s o (exec_lxi · rp d16) (setRp_overwrite s o rp d16)
  | h_inx rp => exact overwriteUnseen_of_handsOn s o (exec_inx · rp) (incrementPair_overwrite s o rp)
  | h_dcx rp => exact overwriteUnseen_of_handsOn s o (exec_dcx · rp) (decrementPair_overwrite s o rp)
  | h_dad rp => exact overwriteUnseen_of_handsOn s o (exec_dad · rp) (addPairToHl_overwrite s o rp)
  | h_jcc cond addr => exact overwriteUnseen_of_handsOn s o (exec_jcc · cond addr) (jumpIf_overwrite s o cond addr)
  | h_ccc cond addr => exact overwriteUnseen_of_handsOn s o (exec_ccc · cond addr) (callIf_overwrite s o cond addr)
  | h_rcc cond => exact overwriteUnseen_of_handsOn s o (exec_rcc · cond) (returnIf_overwrite s o cond)
  -- the other forms: their operation is a chain of updates of other fields
  | h_mov r1 r2 => exact overwriteUnseen_of_handsOn s o (exec_mov · r1 r2) rfl
  | h_movFromM r => exact overwriteUnseen_of_handsOn s o (exec_movFromM · r) rfl
  | h_movToM r => exact overwriteUnseen_of_handsOn s o (exec_movToM · r) rfl
  | h_mvi r d8 => exact overwriteUnseen_of_handsOn s o (exec_mvi · r d8) rfl
  | h_ldax p => exact overwriteUnseen_of_handsOn s o (exec_ldax · p) rfl
  | h_stax p => exact overwriteUnseen_of_handsOn s o (exec_stax · p) rfl
  | h_inr r => exact overwriteUnseen_of_handsOn s o (exec_inr · r) rfl
  | h_dcr r => exact overwriteUnseen_of_handsOn s o (exec_dcr · r) rfl
  | h_rst n => exact overwriteUnseen_of_handsOn s o (exec_rst · n) rfl
  | h_push p => exact overwriteUnseen_of_handsOn s o (exec_push · p) rfl
  | h_pop p => exact overwriteUnseen_of_handsOn s o (exec_pop · p) rfl
  | h_mviM | h_lda | h_sta | h_lhld | h_shld | h_xchg | h_inrM | h_dcrM | h_rlc | h_rrc | h_ral | h_rar | h_cma | h_cmc
  | h_stc | h_jmp | h_call | h_ret | h_pchl | h_xthl | h_inPort | h_outPort | h_sphl | h_nop | h_hlt =>
    exact overwriteUnseen_of_handsOn s o (fun _ => rfl) rfl

/-- The fetch and the terminal step read none of it either, so a whole step carries an overwriting along. -/
theorem step_overwriteUnseen (h : o.ac = none) :
    ∃ t o', step s = .next t ∧ step (s.overwrite o) = .next (t.overwrite o') ∧ o'.Within o := by
  by_cases hrun : s.run = .running
  · rw [step_running hrun, step_running (s := s.overwrite o) hrun]
    exact exec_overwriteUnseen (afterFetch s) o (fetchInstr s) (.inl h)
  · exact ⟨s, o, step_terminal hrun, step_terminal (s := s.overwrite o) hrun, o.within_refl⟩

/-- An overwriting of AC alone is a write of the flags. -/
theorem overwrite_ac_eq {o : Overwrite} (hinte : o.inte = none) (hop : o.trapOpcode = none) (hpc : o.trapPc = none) :
    s.overwrite o = s.setFlags { s.flags with ac := (s.overwrite o).flags.ac } := by
  cases o
  cases hinte
  cases hop
  cases hpc
  rfl

/-- An overwriting of INTE and the trap record leaves the flags as they are. -/
theorem overwrite_control_eq {o : Overwrite} (hac : o.ac = none) :
    s.overwrite o = { s with
      inte := (s.overwrite o).inte, trapOpcode := (s.overwrite o).trapOpcode, trapPc := (s.overwrite o).trapPc } := by
  cases o
  cases hac
  rfl

end

/-- Settles O20: the formulas nibble by nibble; the readers of AC by an overwriting of AC alone. -/
theorem auxiliaryCarry : Obligations.AuxiliaryCarry := by
  refine ⟨fun a v c => ⟨acAdd_eq a v c, acSub_eq a v c, acSub_noBorrow a v c⟩, fun i s b hdaa hpush => ?readers⟩
  case readers =>
    obtain ⟨t, o, ht, ht', ho⟩ := exec_overwriteUnseen s ⟨some b, none, none, none⟩ i (.inr ⟨hdaa, hpush⟩)
    exact ⟨t, _, ht, ht', overwrite_ac_eq t (ho.inte rfl) (ho.trapOpcode rfl) (ho.trapPc rfl)⟩

/-- Settles O59: an overwriting of INTE and the trap record is seen by no instruction and by no step. -/
theorem controlStateIsInvisible : Obligations.ControlStateIsInvisible := by
  refine fun s b op pc => ⟨fun i => ?instruction, ?step⟩
  case instruction =>
    obtain ⟨t, o, ht, ht', ho⟩ := exec_overwriteUnseen s ⟨none, some b, some op, some pc⟩ i (.inl rfl)
    exact ⟨t, _, ht, ht', overwrite_control_eq t (ho.ac rfl)⟩
  case step =>
    obtain ⟨t, o, ht, ht', ho⟩ := step_overwriteUnseen s ⟨none, some b, some op, some pc⟩ rfl
    exact ⟨t, _, ht, ht', overwrite_control_eq t (ho.ac rfl)⟩

end Sys2Proof.Machine
end

section
/-! O1, O15 and O16. Fixed values: the reset state (10_state section 5), the field codes (30_encoding R82 to R85) and
nine encoded words (95_test_vectors section 1). -/

namespace Sys2Proof

open Sys2Proof.Machine

theorem decodeBytes_nop (b2 b3 : Byte) : decodeBytes 0x00 b2 b3 = .nop := rfl

/-- Settles O1: the fields by the definition of the reset state, memory by `reset_load`. -/
theorem resetIsAllZero : Obligations.ResetIsAllZero := by
  refine ⟨fun r => ?registers, rfl, rfl, rfl, rfl, rfl, reset_load, fun a b2 b3 => ?nop⟩
  case registers => cases r <;> rfl
  case nop =>
    rw [reset_load]
    exact decodeBytes_nop b2 b3

/-- Settles O15: each list of codes is read off its table. -/
theorem fieldCodes : Obligations.FieldCodes := ⟨rfl, rfl, rfl, rfl, rfl, rfl, rfl⟩

/-- Settles O16: each word is the encoding of its instruction, so it decodes to it. -/
theorem sampleWordsDecode : Obligations.SampleWordsDecode :=
  ⟨decode_encode .movBE [], decode_encode (.jmp 0x1000) [], decode_encode (.lxiH 0x1234) [], decode_encode .sbbL [],
    decode_encode (.cpi 0x40) [], decode_encode .pushPsw [], decode_encode .rst2 [], decode_encode .hlt [],
    decode_encode .undefED []⟩

end Sys2Proof
end
